-- ==== Sys2Proof/Word.lean ====
section
/-! DEFINITION. The word types of the hub (R13) and the plainest way to read a bit of one. -/

namespace Sys2Proof

/-- A register, an instruction word, an address (R13, R411). -/
abbrev Word := BitVec 32

/-- One byte of memory. -/
abbrev Byte := BitVec 8

end Sys2Proof
end

