-- ==== Sys2Proof/Syntax.lean ====
section
/-! DEFINITION. The commands of the hub, one constructor of `Instr` for each row of spec/opcode_table.json, and the
types of their operands. A command is an access by a master, an instruction of an engine, a message or an edge from
outside, the expiry of a timer, or a measurement crossing its threshold. -/

namespace Sys2Proof

/-- The masters that make accesses (R27, R469). -/
inductive Master where
  | pe (port : Fin 16)
  | supA
  | supB
  | host
  | denoc
  | debug
  deriving DecidableEq, Repr

/-- Access widths (R14, R425). -/
inductive Width where
  | byte
  | half
  | word
  deriving DecidableEq, Repr

/-- The two CC lanes of a port. -/
inductive Lane where
  | a
  | b
  deriving DecidableEq, Repr

/-- What a lane shows (R91): nothing, the partner's Rd, Ra, or an Rp of level 1 default USB, 2 1.5 A, 3 3.0 A. -/
inductive Term where
  | open_
  | rd
  | ra
  | rp (level : Fin 4)
  deriving DecidableEq, Repr

/-- SOP types a frame may carry (R129, R130). -/
inductive Sop where
  | sop
  | sopP
  | sopPP
  | dbg
  deriving DecidableEq, Repr

/-- Specification revisions (R133). -/
inductive PdRev where
  | rev1
  | rev2
  | rev3
  deriving DecidableEq, Repr

/-- A received frame with a good CRC: its SOP type, MessageID and revision, the header as received, whether it is
extended, the data size of an extended message, whether the partner sends it chunked and more chunks follow, and
the data words as received. -/
structure RxFrame where
  sop : Sop
  id : Fin 8
  rev : PdRev
  header : BitVec 16
  extended : Bool
  chunked : Bool
  moreChunks : Bool
  size : Nat
  data : List Word
  deriving DecidableEq, Repr

/-- PDO kinds (R144). -/
inductive PdoKind where
  | fixed
  | pps
  | avs
  | variable
  | battery
  deriving DecidableEq, Repr

/-- A power data object. Voltages in 10 mV; `amp` is the current in mA of fixed, variable and PPS
objects; `pdp` the PDP of an AVS object or the power of a battery object in 0.1 W. Variable and battery objects are only
received: the hub advertises none and requests none (R144, R169, R211). -/
structure Pdo where
  kind : PdoKind
  vmin : Nat
  vmax : Nat
  amp : Nat
  pdp : Nat
  dualRole : Bool
  unconstrained : Bool
  eprCapable : Bool
  frs : Fin 4
  deriving DecidableEq, Repr

/-- A request (R156): the RDO as received and its fields. `volt` is the output voltage of a PPS or AVS request in
10 mV; currents in mA; `copied` the copied PDO of an EPR_Request. -/
structure Rdo where
  raw : Word
  pos : Fin 16
  opCur : Nat
  maxCur : Option Nat
  volt : Nat
  mismatch : Bool
  eprCapable : Bool
  copied : Option Word
  deriving DecidableEq, Repr

/-- The RDO fields decoded when a speculative claim is raised (R154): a missing one is predicted. -/
structure RdoSoFar where
  pos : Option (Fin 16)
  opCur : Option Nat
  maxCur : Option Nat
  volt : Option Nat
  deriving DecidableEq, Repr

/-- Status-like data messages (R141). -/
inductive StatusKind where
  | status
  | ppsStatus
  | battery (valid : Bool) (charge : Fin 4) (capacity : BitVec 16)
  | sourceCapsExt
  | sinkCapsExt (hasBattery : Bool)
  deriving DecidableEq, Repr

/-- A reply to Discover Identity (R151, R359): an ACK from the cable on SOP' or from the partner on SOP, or a reply that
gives no identity (NAK). -/
inductive Identity where
  | cable (vid : BitVec 16) (active epr : Bool) (maxV maxI : Fin 4)
  | partner (vid pid : BitVec 16)
  | nak
  deriving DecidableEq, Repr

/-- Messages outside the supported set (R140, R141). -/
inductive Unsupported where
  | other
  | structuredVdm
  | unstructuredVdm
  deriving DecidableEq, Repr

/-- One half-cycle's averages of one port (R286): VBUS, VCx in 10 mV, output current in mA, NTC in 0.125 °C; and what its
inputs show now (R282, R284): lanes, VCx, VBUS in 10 mV, the current through the sense resistor in mA, GATEx − SRCx in
10 mV. -/
structure PortSample where
  vbus : BitVec 16
  vnode : BitVec 16
  iout : BitVec 16
  temp : BitVec 16
  ccA : BitVec 16
  ccB : BitVec 16
  node : BitVec 16
  bus : BitVec 16
  sense : BitVec 16
  vgs : BitVec 16
  deriving DecidableEq, Repr

/-- A conversion of a port's protection comparator above the threshold (R303): VCx and VBUS, in 10 mV. -/
structure OverReading where
  port : Fin 16
  node : BitVec 16
  bus : BitVec 16
  deriving DecidableEq, Repr

/-- A conversion of a port's protection comparator below the threshold (R304): VBUS, in 10 mV. -/
structure UnderReading where
  port : Fin 16
  bus : BitVec 16
  deriving DecidableEq, Repr

/-- One half-cycle's average VHUB of a quad, its latest conversion (R286), and whether the last four reference
results were all good (R285). -/
structure QuadSample where
  vhubAvg : BitVec 16
  vhub : BitVec 16
  refGood : Bool
  deriving DecidableEq, Repr

/-- Whether each condition of the last column of R454 holds now, for the sources whose condition only an input of
the hub shows (log entry 16): VHUB above 57.0 V, VHUB below 19.5 V, VSYS not yet above 4.8 V for 1 ms, the buck's
fault, die above 110 °C, die above 120 °C, the clock off by more than 3 %, a debugger on the port. -/
structure Monitors where
  vhubOver : Bool
  vhubUnder : Bool
  vsysLow : Bool
  buckFault : Bool
  dieWarm : Bool
  dieHot : Bool
  clockBad : Bool
  debugHeld : Bool
  deriving DecidableEq, Repr

/-- What a zero crossing latches. -/
structure HalfCycle where
  ports : Vector PortSample 16
  quads : Vector QuadSample 4
  monitors : Monitors
  deriving DecidableEq, Repr

/-- What brings a power-on reset (R345, R371). -/
inductive ResetCause where
  | lockout
  | vdd33
  | ship
  deriving DecidableEq, Repr

/-- What wakes the hub from Watch mode (R370). -/
inductive WatchCause where
  | hostAddress
  | wakePin
  | denocSync
  | slotFired
  | faultLatch
  deriving DecidableEq, Repr

/-- What wakes the hub from Ship mode (R372). -/
inductive ShipCause where
  | vbus (ports : BitVec 16)
  | acz
  | wakePin
  deriving DecidableEq, Repr

/-- What the start sequence measures (R348, R350–R353): failed calibrations of ports and housekeeping ADCs, whether the
factory area reads good, the SVC_BOOT pin, the time of step 10 and the time from the release of power-on reset to the end of
step 9, both in 0.1 ms. -/
structure StartReadings where
  portCalFail : BitVec 16
  quadCalFail : BitVec 4
  trimGood : Bool
  svcBootLow : Bool
  imageTime : BitVec 16
  startTime : BitVec 16
  deriving DecidableEq, Repr

/-- How a host write ends (R506, R513): with a byte after its last data byte, which is taken as its PEC, and a STOP; with
such a byte and a further one beyond it; at a STOP without a PEC; or cut short. -/
inductive WriteEnd where
  | pec (b : BitVec 8)
  | beyond (b : BitVec 8)
  | noPec
  | cut
  deriving DecidableEq, Repr

/-- The two-wire buses of chapter 14. -/
inductive Bus where
  | hostBus
  | convoyBus
  deriving DecidableEq, Repr

/-- How a Convoy frame of this hub ends (R524, R525, R528, R531): delivered, not acknowledged, lost in arbitration at
a byte and bit, lost at the STOP. -/
inductive FrameEnd where
  | delivered
  | nacked
  | lost (byte : BitVec 8) (bit : Fin 8)
  | lostAtStop
  deriving DecidableEq, Repr

/-- Why a Convoy frame is discarded (R523). -/
inductive DiscardCause where
  | badCount
  | badPec
  | cutShort
  deriving DecidableEq, Repr

/-- A demand summary (R541, R542), in 0.1 W. -/
structure Demand where
  held : Nat
  floor : Nat
  want : Nat
  urgent : Nat
  lim : Nat
  scheduled : Bool
  deriving DecidableEq, Repr

/-- Who sends a Convoy frame (R541): its site rack, hub field and serial. -/
structure Sender where
  site : Fin 16
  hub : Fin 16
  serial : BitVec 24
  deriving DecidableEq, Repr

/-- The commands: one for each row of spec/opcode_table.json, those of chapter 11 first, the others in its order. -/
inductive Instr where
  /-- ADD, R417. -/
  | add (e : Fin 18) (rd ra rb : Fin 32)
  /-- SUB, R417. -/
  | sub (e : Fin 18) (rd ra rb : Fin 32)
  /-- AND, R417. -/
  | and (e : Fin 18) (rd ra rb : Fin 32)
  /-- OR, R417. -/
  | or (e : Fin 18) (rd ra rb : Fin 32)
  /-- XOR, R417. -/
  | xor (e : Fin 18) (rd ra rb : Fin 32)
  /-- SLT, R417. -/
  | slt (e : Fin 18) (rd ra rb : Fin 32)
  /-- SLTU, R417. -/
  | sltu (e : Fin 18) (rd ra rb : Fin 32)
  /-- NEG, R420. -/
  | neg (e : Fin 18) (rd ra : Fin 32)
  /-- SADD, R424. -/
  | sadd (e : Fin 18) (rd ra rb : Fin 32)
  /-- SSUB, R424. -/
  | ssub (e : Fin 18) (rd ra rb : Fin 32)
  /-- SHL, R423. -/
  | shl (e : Fin 18) (rd ra rb : Fin 32)
  /-- SHR, R423. -/
  | shr (e : Fin 18) (rd ra rb : Fin 32)
  /-- SAR, R423. -/
  | sar (e : Fin 18) (rd ra rb : Fin 32)
  /-- ROT, R423. -/
  | rot (e : Fin 18) (rd ra rb : Fin 32)
  /-- MUL, R418. -/
  | mul (e : Fin 18) (rd ra rb : Fin 32)
  /-- MULH, R418. -/
  | mulh (e : Fin 18) (rd ra rb : Fin 32)
  /-- MULHU, R418. -/
  | mulhu (e : Fin 18) (rd ra rb : Fin 32)
  /-- DIV, R421. -/
  | div (e : Fin 18) (rd ra rb : Fin 32)
  /-- DIVU, R422. -/
  | divu (e : Fin 18) (rd ra rb : Fin 32)
  /-- REM, R421. -/
  | rem (e : Fin 18) (rd ra rb : Fin 32)
  /-- REMU, R422. -/
  | remu (e : Fin 18) (rd ra rb : Fin 32)
  /-- ADDI, R419. -/
  | addi (e : Fin 18) (rd ra : Fin 32) (imm : BitVec 16)
  /-- ANDI, R419. -/
  | andi (e : Fin 18) (rd ra : Fin 32) (imm : BitVec 16)
  /-- ORI, R419. -/
  | ori (e : Fin 18) (rd ra : Fin 32) (imm : BitVec 16)
  /-- XORI, R419. -/
  | xori (e : Fin 18) (rd ra : Fin 32) (imm : BitVec 16)
  /-- SLTI, R419. -/
  | slti (e : Fin 18) (rd ra : Fin 32) (imm : BitVec 16)
  /-- SLTIU, R419. -/
  | sltiu (e : Fin 18) (rd ra : Fin 32) (imm : BitVec 16)
  /-- LUI, R419. -/
  | lui (e : Fin 18) (rd : Fin 32) (imm : BitVec 16)
  /-- SHLI, R423. -/
  | shli (e : Fin 18) (rd ra : Fin 32) (amt : BitVec 5)
  /-- SHRI, R423. -/
  | shri (e : Fin 18) (rd ra : Fin 32) (amt : BitVec 5)
  /-- SARI, R423. -/
  | sari (e : Fin 18) (rd ra : Fin 32) (amt : BitVec 5)
  /-- ROTI, R423. -/
  | roti (e : Fin 18) (rd ra : Fin 32) (amt : BitVec 5)
  /-- LDW, R425. -/
  | ldw (e : Fin 18) (rd ra : Fin 32) (off : BitVec 16)
  /-- LDH, R425. -/
  | ldh (e : Fin 18) (rd ra : Fin 32) (off : BitVec 16)
  /-- LDHU, R425. -/
  | ldhu (e : Fin 18) (rd ra : Fin 32) (off : BitVec 16)
  /-- LDB, R425. -/
  | ldb (e : Fin 18) (rd ra : Fin 32) (off : BitVec 16)
  /-- LDBU, R425. -/
  | ldbu (e : Fin 18) (rd ra : Fin 32) (off : BitVec 16)
  /-- STW, R425. -/
  | stw (e : Fin 18) (rd ra : Fin 32) (off : BitVec 16)
  /-- STH, R425. -/
  | sth (e : Fin 18) (rd ra : Fin 32) (off : BitVec 16)
  /-- STB, R425. -/
  | stb (e : Fin 18) (rd ra : Fin 32) (off : BitVec 16)
  /-- BEQ, R431. -/
  | beq (e : Fin 18) (ra rb : Fin 32) (disp : BitVec 16)
  /-- BNE, R431. -/
  | bne (e : Fin 18) (ra rb : Fin 32) (disp : BitVec 16)
  /-- BLT, R431. -/
  | blt (e : Fin 18) (ra rb : Fin 32) (disp : BitVec 16)
  /-- BGE, R431. -/
  | bge (e : Fin 18) (ra rb : Fin 32) (disp : BitVec 16)
  /-- BLTU, R431. -/
  | bltu (e : Fin 18) (ra rb : Fin 32) (disp : BitVec 16)
  /-- BGEU, R431. -/
  | bgeu (e : Fin 18) (ra rb : Fin 32) (disp : BitVec 16)
  /-- JMP, R431. -/
  | jmp (e : Fin 18) (disp : BitVec 26)
  /-- CALL, R431. -/
  | call (e : Fin 18) (disp : BitVec 26)
  /-- PUSHL, R435. -/
  | pushl (e : Fin 18) (mask : BitVec 16)
  /-- POPL, R435. -/
  | popl (e : Fin 18) (mask : BitVec 16)
  /-- PUSHH, R435. -/
  | pushh (e : Fin 18) (mask : BitVec 16)
  /-- POPH, R435. -/
  | poph (e : Fin 18) (mask : BitVec 16)
  /-- RET, R438. -/
  | ret (e : Fin 18)
  /-- JMPR, R432. -/
  | jmpr (e : Fin 18) (reg : Fin 32)
  /-- CALLR, R432. -/
  | callr (e : Fin 18) (reg : Fin 32)
  /-- ADDSP, R436. -/
  | addsp (e : Fin 18) (operand : BitVec 16)
  /-- NOP, R440. -/
  | nop (e : Fin 18)
  /-- MFC, R441. -/
  | mfc (e : Fin 18) (reg : Fin 32) (ctl : BitVec 8)
  /-- MTC, R441. -/
  | mtc (e : Fin 18) (reg : Fin 32) (ctl : BitVec 8)
  /-- TRAP, R440. -/
  | trap (e : Fin 18) (operand : BitVec 16)
  /-- BREAK, R452. -/
  | brk (e : Fin 18)
  /-- ERET, R450. -/
  | eret (e : Fin 18)
  /-- WAIT, R451. -/
  | wait (e : Fin 18)
  /-- FENCE, R429. -/
  | fence (e : Fin 18)
  /-- RESERVED_ENCODING, R414. -/
  | reservedEncoding (e : Fin 18) (w : Word)
  /-- ABSENT_UNIT_ACCESS, R2. -/
  | absentUnitAccess (m : Master) (addr : Word) (write : Bool) (v : Word)
  /-- BUS_ERROR_ACCESS, R15. -/
  | busErrorAccess (m : Master) (addr : Word) (width : Width) (write : Bool) (v : Word)
  /-- REGISTER_WRITE, R583. -/
  | registerWrite (m : Master) (addr : Word) (v : Word)
  /-- PORT_SEL_WRITE, R42. -/
  | portSelWrite (m : Master) (v : Word)
  /-- QUAD_SEL_WRITE, R42. -/
  | quadSelWrite (m : Master) (v : Word)
  /-- ACZ_EDGE, R62. -/
  | aczEdge (held : Nat)
  /-- SYNC_EDGE, R66. -/
  | syncEdge (held : Nat)
  /-- HOLDOVER_START, R71. -/
  | holdoverStart
  /-- MAINS_LOST, R69. -/
  | mainsLost
  /-- SUNDIAL_UNLOCKED, R72. -/
  | sundialUnlocked
  /-- SYNC_PULSE, R67. -/
  | syncPulse
  /-- SLOT_REQ, R77. -/
  | slotReq (m : Master) (v : Word)
  /-- SLOT_CANCEL, R82. -/
  | slotCancel (m : Master) (v : Word)
  /-- SLOT_FIRED, R80. -/
  | slotFired (slot : Fin 32)
  /-- SUNDIAL_WRAP, R87. -/
  | sundialWrap
  /-- SUN_CYCLE_READ, R88. -/
  | sunCycleRead (m : Master)
  /-- HALF_CYCLE_LATCH, R286. -/
  | halfCycleLatch (h : HalfCycle)
  /-- CC_OVERVOLTAGE, R92. -/
  | ccOvervoltage (p : Fin 16) (lane : Lane)
  /-- DRP_TOGGLE, R94. -/
  | drpToggle (p : Fin 16)
  /-- CC_TERMINATION_SEEN, R100. -/
  | ccTerminationSeen (p : Fin 16) (a b : Term)
  /-- WATCH_DETECTION, R99. -/
  | watchDetection (p : Fin 16) (lane : Lane) (t : Term)
  /-- CC_DEBOUNCE_EXPIRY, R100. -/
  | ccDebounceExpiry (p : Fin 16)
  /-- PD_DEBOUNCE_EXPIRY, R100. -/
  | pdDebounceExpiry (p : Fin 16)
  /-- DRP_TRY_EXPIRY, R101. -/
  | drpTryExpiry (p : Fin 16)
  /-- TRY_TIMEOUT_EXPIRY, R101. -/
  | tryTimeoutExpiry (p : Fin 16)
  /-- VBUS_VSAFE5V_REACHED, R112. -/
  | vbusVsafe5vReached (p : Fin 16)
  /-- VBUS_ON_TIMEOUT, R112. -/
  | vbusOnTimeout (p : Fin 16)
  /-- VCONN_OVERCURRENT, R107. -/
  | vconnOvercurrent (p : Fin 16)
  /-- VCONN_SUPPLY_LOST, R108. -/
  | vconnSupplyLost
  /-- VCONN_SUPPLY_RESTORED, R108. -/
  | vconnSupplyRestored
  /-- SOURCE_DETACH, R116. -/
  | sourceDetach (p : Fin 16)
  /-- SINK_DETACH, R117. -/
  | sinkDetach (p : Fin 16)
  /-- DETACH_WINDOW_CLOSE, R118. -/
  | detachWindowClose (p : Fin 16)
  /-- DISCHARGE_TIMEOUT, R120. -/
  | dischargeTimeout (p : Fin 16)
  /-- VSAFE0V_REACHED, R121. -/
  | vsafe0vReached (p : Fin 16)
  /-- REST_ELAPSED, R121. -/
  | restElapsed (p : Fin 16)
  /-- PORT_ENABLE_CLEAR, R124. -/
  | portEnableClear (m : Master) (v : Word)
  /-- DRAIN_HARD_RESET_EXPIRY, R124. -/
  | drainHardResetExpiry (p : Fin 16)
  /-- PORT_ENABLE_SET, R125. -/
  | portEnableSet (m : Master) (v : Word)
  /-- PORT_RECOVER, R121. -/
  | portRecover (m : Master) (v : Word)
  /-- GOODCRC_RECEIVED, R40. -/
  | goodcrcReceived (p : Fin 16)
  /-- FRAME_CRC_ERROR, R158. -/
  | frameCrcError (p : Fin 16)
  /-- IGNORED_FRAME, R130. -/
  | ignoredFrame (p : Fin 16) (kind : Sop)
  /-- TRECEIVE_EXPIRY, R132. -/
  | treceiveExpiry (p : Fin 16)
  /-- CHUNK_TIMEOUT, R138. -/
  | chunkTimeout (p : Fin 16)
  /-- SPECULATIVE_CLAIM, R154. -/
  | speculativeClaim (p : Fin 16) (epr : Bool) (r : RdoSoFar)
  /-- REQUEST_RECEIVED, R157. -/
  | requestReceived (p : Fin 16) (f : RxFrame) (epr : Bool) (r : Rdo)
  /-- SOURCE_CAPABILITIES_RECEIVED, R169. -/
  | sourceCapabilitiesReceived (p : Fin 16) (f : RxFrame) (epr : Bool) (pdos : List Pdo)
  /-- SINK_CAPABILITIES_RECEIVED, R211. -/
  | sinkCapabilitiesReceived (p : Fin 16) (f : RxFrame) (epr : Bool) (pdos : List Pdo)
  /-- GET_SOURCE_CAP_RECEIVED, R141. -/
  | getSourceCapReceived (p : Fin 16) (f : RxFrame)
  /-- GET_SINK_CAP_RECEIVED, R141. -/
  | getSinkCapReceived (p : Fin 16) (f : RxFrame)
  /-- ACCEPT_RECEIVED, R170. -/
  | acceptReceived (p : Fin 16) (f : RxFrame)
  /-- REJECT_RECEIVED, R170. -/
  | rejectReceived (p : Fin 16) (f : RxFrame)
  /-- WAIT_RECEIVED, R170. -/
  | waitReceived (p : Fin 16) (f : RxFrame)
  /-- PS_RDY_RECEIVED, R170. -/
  | psRdyReceived (p : Fin 16) (f : RxFrame)
  /-- SOFT_RESET_RECEIVED, R174. -/
  | softResetReceived (p : Fin 16) (f : RxFrame)
  /-- HARD_RESET_RECEIVED, R175. -/
  | hardResetReceived (p : Fin 16)
  /-- GET_STATUS_RECEIVED, R141. -/
  | getStatusReceived (p : Fin 16) (f : RxFrame)
  /-- GET_PPS_STATUS_RECEIVED, R141. -/
  | getPpsStatusReceived (p : Fin 16) (f : RxFrame)
  /-- GET_SOURCE_CAP_EXT_RECEIVED, R141. -/
  | getSourceCapExtReceived (p : Fin 16) (f : RxFrame)
  /-- GET_SINK_CAP_EXT_RECEIVED, R141. -/
  | getSinkCapExtReceived (p : Fin 16) (f : RxFrame)
  /-- ALERT_RECEIVED, R141. -/
  | alertReceived (p : Fin 16) (f : RxFrame) (battery : Bool)
  /-- STATUS_DATA_RECEIVED, R141. -/
  | statusDataReceived (p : Fin 16) (f : RxFrame) (k : StatusKind)
  /-- EPR_MODE_ENTER_RECEIVED, R171. -/
  | eprModeEnterReceived (p : Fin 16) (f : RxFrame)
  /-- EPR_MODE_EXIT_RECEIVED, R141. -/
  | eprModeExitReceived (p : Fin 16) (f : RxFrame)
  /-- EPR_KEEPALIVE_RECEIVED, R141. -/
  | eprKeepaliveReceived (p : Fin 16) (f : RxFrame)
  /-- EPR_GET_CAP_RECEIVED, R141. -/
  | eprGetCapReceived (p : Fin 16) (f : RxFrame) (source : Bool)
  /-- DISCOVER_IDENTITY_RECEIVED, R141. -/
  | discoverIdentityReceived (p : Fin 16) (f : RxFrame)
  /-- VDM_RESPONSE_RECEIVED, R151. -/
  | vdmResponseReceived (p : Fin 16) (f : RxFrame) (id : Identity)
  /-- UNSUPPORTED_MESSAGE_RECEIVED, R140. -/
  | unsupportedMessageReceived (p : Fin 16) (f : RxFrame) (k : Unsupported)
  /-- NOT_SUPPORTED_RECEIVED, R141. -/
  | notSupportedReceived (p : Fin 16) (f : RxFrame)
  /-- BIST_RECEIVED, R140. -/
  | bistReceived (p : Fin 16) (f : RxFrame)
  /-- DISCOVER_IDENTITY_RETRY, R150. -/
  | discoverIdentityRetry (p : Fin 16)
  /-- SRC_CAPS_RESEND, R152. -/
  | srcCapsResend (p : Fin 16)
  /-- SENDER_RESPONSE_TIMEOUT, R152. -/
  | senderResponseTimeout (p : Fin 16)
  /-- BATTERY_POLL, R142. -/
  | batteryPoll (p : Fin 16)
  /-- PPS_TIMEOUT, R168. -/
  | ppsTimeout (p : Fin 16)
  /-- EPR_SOURCE_TIMEOUT, R173. -/
  | eprSourceTimeout (p : Fin 16)
  /-- SINK_WAIT_RETRY, R170. -/
  | sinkWaitRetry (p : Fin 16)
  /-- SINK_PS_RDY_TIMEOUT, R170. -/
  | sinkPsRdyTimeout (p : Fin 16)
  /-- SINK_PPS_REFRESH, R170. -/
  | sinkPpsRefresh (p : Fin 16)
  /-- SINK_EPR_KEEPALIVE, R170. -/
  | sinkEprKeepalive (p : Fin 16)
  /-- SINK_TX_NG_EXPIRY, R134. -/
  | sinkTxNgExpiry (p : Fin 16)
  /-- HARD_RESET_VBUS_OFF, R175. -/
  | hardResetVbusOff (p : Fin 16)
  /-- HARD_RESET_RECOVER, R175. -/
  | hardResetRecover (p : Fin 16)
  /-- SINK_HARD_RESET_TIMEOUT, R176. -/
  | sinkHardResetTimeout (p : Fin 16)
  /-- LOWERING_SETPOINT, R162. -/
  | loweringSetpoint (p : Fin 16)
  /-- TRANSITION_COMPLETE, R163. -/
  | transitionComplete (p : Fin 16)
  /-- PS_RDY_TIMER, R163. -/
  | psRdyTimer (p : Fin 16)
  /-- CUT_LIMIT_EXPIRY, R215. -/
  | cutLimitExpiry (p : Fin 16)
  /-- CLAIM_IMPLICIT, R109. -/
  | claimImplicit (p : Fin 16) (v : Word)
  /-- CLAIM_REQUEST, R193. -/
  | claimRequest (p : Fin 16) (v : Word)
  /-- CLAIM_STANDBY, R246. -/
  | claimStandby (p : Fin 16) (v : Word)
  /-- CLAIM_CONFIRM, R593. -/
  | claimConfirm (p : Fin 16) (v : Word)
  /-- CLAIM_WITHDRAW, R592. -/
  | claimWithdraw (p : Fin 16) (v : Word)
  /-- PROMPT_HOLD_EXPIRY, R205. -/
  | promptHoldExpiry (p : Fin 16)
  /-- HUB_DERATE_WRITE, R185. -/
  | hubDerateWrite (m : Master) (v : Word)
  /-- QUAD_DERATE_WRITE, R185. -/
  | quadDerateWrite (m : Master) (q : Fin 4) (v : Word)
  /-- AUDIT, R218. -/
  | audit
  /-- RAMP_POSITION, R221. -/
  | rampPosition (slot : Fin 2)
  /-- OVERRIDE_START, R221. -/
  | overrideStart (p : Fin 16)
  /-- HAMPER_VETO, R202. -/
  | hamperVeto (m : Master) (v : Word)
  /-- AUX_CLAIM, R183. -/
  | auxClaim (m : Master) (v : Word)
  /-- AUX_RELEASE, R227. -/
  | auxRelease (m : Master) (v : Word)
  /-- RACK_SHARE_APPLY, R539. -/
  | rackShareApply
  /-- SWAP_GO_PR, R230. -/
  | swapGoPr (m : Master) (v : Word)
  /-- SWAP_GO_DR, R230. -/
  | swapGoDr (m : Master) (v : Word)
  /-- SWAP_GO_VCONN, R230. -/
  | swapGoVconn (m : Master) (v : Word)
  /-- PR_SWAP_RECEIVED, R228. -/
  | prSwapReceived (p : Fin 16) (f : RxFrame)
  /-- DR_SWAP_RECEIVED, R240. -/
  | drSwapReceived (p : Fin 16) (f : RxFrame)
  /-- VCONN_SWAP_RECEIVED, R228. -/
  | vconnSwapReceived (p : Fin 16) (f : RxFrame)
  /-- SWAP_WAIT_RETRY, R229. -/
  | swapWaitRetry (p : Fin 16)
  /-- PR_SWAP_SOURCE_OFF, R236. -/
  | prSwapSourceOff (p : Fin 16)
  /-- PR_SWAP_PS_RDY_TIMEOUT, R239. -/
  | prSwapPsRdyTimeout (p : Fin 16)
  /-- VCONN_SWAP_LANE_READY, R242. -/
  | vconnSwapLaneReady (p : Fin 16)
  /-- VCONN_SWAP_TIMEOUT, R243. -/
  | vconnSwapTimeout (p : Fin 16)
  /-- FRS_SIGNAL, R247. -/
  | frsSignal (p : Fin 16)
  /-- FRS_SOURCE_START, R248. -/
  | frsSourceStart (p : Fin 16)
  /-- FR_SWAP_RECEIVED, R250. -/
  | frSwapReceived (p : Fin 16) (f : RxFrame)
  /-- VHUB_ISLAND_TRIGGER, R251. -/
  | vhubIslandTrigger
  /-- BIVOUAC_FORCE, R252. -/
  | bivouacForce (m : Master) (v : Word)
  /-- BIVOUAC_DISABLE, R254. -/
  | bivouacDisable (m : Master) (v : Word)
  /-- FRS_SIGNAL_END, R260. -/
  | frsSignalEnd (p : Fin 16)
  /-- FEED_VBUS_PRESENT, R261. -/
  | feedVbusPresent (p : Fin 16)
  /-- FRS_NO_SOURCE, R262. -/
  | frsNoSource (p : Fin 16)
  /-- RETURN_DELAY_EXPIRY, R269. -/
  | returnDelayExpiry
  /-- BIVOUAC_EXIT, R269. -/
  | bivouacExit (m : Master) (v : Word)
  /-- STAGE_CFG_WRITE, R281. -/
  | stageCfgWrite (m : Master) (v : Word)
  /-- FSW_APPLY, R281. -/
  | fswApply (p : Fin 16)
  /-- COEF_I_WRITE, R290. -/
  | coefIWrite (m : Master) (n : Fin 3) (v : Word)
  /-- STAGE_VSET_WRITE, R292. -/
  | stageVsetWrite (m : Master) (v : Word)
  /-- STAGE_ILIM_WRITE, R293. -/
  | stageIlimWrite (m : Master) (v : Word)
  /-- CURRENT_LIMIT_ENTRY, R301. -/
  | currentLimitEntry (p : Fin 16)
  /-- CURRENT_LIMIT_EXIT, R301. -/
  | currentLimitExit (p : Fin 16)
  /-- OVP_DETECT, R303. -/
  | ovpDetect (r : OverReading)
  /-- UVP_DETECT, R304. -/
  | uvpDetect (r : UnderReading)
  /-- LOOP_SATURATION, R305. -/
  | loopSaturation (p : Fin 16)
  /-- OVERTEMPERATURE, R306. -/
  | overtemperature (p : Fin 16)
  /-- STAGE_MODE_OFF, R315. -/
  | stageModeOff (m : Master) (v : Word)
  /-- STAGE_MODE_FORWARD, R276. -/
  | stageModeForward (m : Master) (v : Word)
  /-- STAGE_MODE_REVERSE, R309. -/
  | stageModeReverse (m : Master) (v : Word)
  /-- REVERSE_EQUALISE, R309. -/
  | reverseEqualise (p : Fin 16) (vbus : BitVec 16)
  /-- NODE_READY, R309. -/
  | nodeReady (p : Fin 16)
  /-- STAGE_FRS_ARM, R311. -/
  | stageFrsArm (m : Master) (v : Word)
  /-- DISCHARGE_TEST, R313. -/
  | dischargeTest (m : Master) (v : Word)
  /-- DRAIN_COMPLETE, R315. -/
  | drainComplete (p : Fin 16)
  /-- DRAIN_TIMEOUT, R315. -/
  | drainTimeout (p : Fin 16)
  /-- HK_REFERENCE_FAULT, R285. -/
  | hkReferenceFault (q : Fin 4)
  /-- STAGE_TELEM1_READ, R286. -/
  | stageTelem1Read (m : Master)
  /-- INRUSH_COMPLETE, R321. -/
  | inrushComplete (p : Fin 16)
  /-- INRUSH_TIMEOUT, R322. -/
  | inrushTimeout (p : Fin 16)
  /-- PASS_LIMIT_ENTRY, R324. -/
  | passLimitEntry (p : Fin 16)
  /-- FAST_TRIP, R326. -/
  | fastTrip (p : Fin 16)
  /-- SOA_TRIP, R328. -/
  | soaTrip (p : Fin 16)
  /-- GATE_STUCK, R338. -/
  | gateStuck (p : Fin 16)
  /-- LEAK_GO, R339. -/
  | leakGo (m : Master) (v : Word)
  /-- LEAK_PLATEAU_STEP, R341. -/
  | leakPlateauStep (p : Fin 16)
  /-- LEAK_PROBE_DONE, R341. -/
  | leakProbeDone (p : Fin 16) (follows : Bool)
  /-- PASS_EN_CLEAR, R320. -/
  | passEnClear (m : Master) (v : Word)
  /-- PASS_EN_SET, R336. -/
  | passEnSet (m : Master) (v : Word)
  /-- PORT_FAULT_CLEAR, R630. -/
  | portFaultClear (m : Master) (v : Word)
  /-- POWER_ON_RESET, R346. -/
  | powerOnReset (cause : ResetCause)
  /-- LOCKOUT_RELEASE, R348. -/
  | lockoutRelease (r : StartReadings)
  /-- STARTUP_SUN_TIMEOUT, R355. -/
  | startupSunTimeout
  /-- READY_REACHED, R348. -/
  | readyReached
  /-- VSYS_LOW, R347. -/
  | vsysLow
  /-- CARD_ERASE, R366. -/
  | cardErase (m : Master) (v : Word)
  /-- CARD_ERASE_DONE, R367. -/
  | cardEraseDone
  /-- WATCH_GO, R369. -/
  | watchGo (m : Master) (v : Word)
  /-- WATCH_AUTO_ENTRY, R369. -/
  | watchAutoEntry
  /-- WATCH_WAKE, R370. -/
  | watchWake (cause : WatchCause)
  /-- SHIP_GO, R371. -/
  | shipGo (m : Master) (v : Word)
  /-- SHIP_WAKE, R372. -/
  | shipWake (cause : ShipCause)
  /-- WDT_KICK, R384. -/
  | wdtKick (m : Master) (v : Word)
  /-- SUPERVISOR_WATCHDOG, R385. -/
  | supervisorWatchdog (b : Bool)
  /-- RESTART_A, R388. -/
  | restartA (m : Master) (v : Word)
  /-- RESTART_B, R388. -/
  | restartB (m : Master) (v : Word)
  /-- FLASK_RESTART, R392. -/
  | flaskRestart
  /-- FLASK_EXPIRED, R394. -/
  | flaskExpired
  /-- SUPERVISOR_HALT, R395. -/
  | supervisorHalt (m : Master) (v : Word)
  /-- SUPERVISOR_HALTED, R395. -/
  | supervisorHalted (b : Bool)
  /-- SUPERVISOR_B_RELEASE, R383. -/
  | supervisorBRelease (m : Master) (v : Word)
  /-- PE_RUN_CLEAR, R396. -/
  | peRunClear (m : Master) (v : Word)
  /-- PE_RUN_SET, R383. -/
  | peRunSet (m : Master) (v : Word)
  /-- PE_KICK, R397. -/
  | peKick (p : Fin 16) (v : Word)
  /-- PE_WATCHDOG, R397. -/
  | peWatchdog (p : Fin 16)
  /-- SCRUB_READ, R407. -/
  | scrubRead
  /-- MEM_ZERO, R404. -/
  | memZero (m : Master) (v : Word)
  /-- IRQ, R449. -/
  | irq (e : Fin 18)
  /-- TIME_CMP_MATCH, R442. -/
  | timeCmpMatch (e : Fin 18)
  /-- FAULT_STATUS_CLEAR, R462. -/
  | faultStatusClear (m : Master) (hi : Bool) (v : Word)
  /-- FAULT_NEW_CLEAR, R463. -/
  | faultNewClear (m : Master) (hi : Bool) (v : Word)
  /-- FAULT_FORCE, R464. -/
  | faultForce (m : Master) (hi : Bool) (v : Word)
  /-- FAULT_SEV_WRITE, R457. -/
  | faultSevWrite (m : Master) (k : Fin 4) (v : Word)
  /-- LOG_POP, R477. -/
  | logPop (m : Master)
  /-- LOG_WRITE, R478. -/
  | logWrite (m : Master) (v : Word)
  /-- FLASH_RING_WRITE, R479. -/
  | flashRingWrite
  /-- VHUB_OVER, R454. -/
  | vhubOver
  /-- VHUB_UNDER, R454. -/
  | vhubUnder
  /-- DIE_TEMP_WARNING, R454. -/
  | dieTempWarning
  /-- DIE_TEMP_SHUTDOWN, R454. -/
  | dieTempShutdown
  /-- CLOCK_FAULT, R351. -/
  | clockFault
  /-- BUCK_FAULT, R454. -/
  | buckFault
  /-- DEBUG_ACCESS, R454. -/
  | debugAccess
  /-- CHECK_GO_SCAN, R486. -/
  | checkGoScan (m : Master) (c : Fin 2) (v : Word)
  /-- CHECK_GO_FEED, R486. -/
  | checkGoFeed (m : Master) (c : Fin 2) (v : Word)
  /-- CHECK_FEED, R486. -/
  | checkFeed (m : Master) (c : Fin 2) (v : Word)
  /-- CHECK_FEED_B, R486. -/
  | checkFeedB (m : Master) (c : Fin 2) (v : Word)
  /-- CHECK_END, R487. -/
  | checkEnd (m : Master) (c : Fin 2) (v : Word)
  /-- CHECK_DONE, R493. -/
  | checkDone (c : Fin 2)
  /-- CHECK_DRAIN, R495. -/
  | checkDrain (m : Master) (c : Fin 2) (v : Word)
  /-- HOST_STATUS, R505. -/
  | hostStatus
  /-- HOST_FAULT_LO_READ, R504. -/
  | hostFaultLoRead
  /-- HOST_FAULT_LO_WRITE, R504. -/
  | hostFaultLoWrite (v : Word) (w : WriteEnd)
  /-- HOST_FAULT_HI_READ, R504. -/
  | hostFaultHiRead
  /-- HOST_FAULT_HI_WRITE, R504. -/
  | hostFaultHiWrite (v : Word) (w : WriteEnd)
  /-- HOST_LOG_POP, R477. -/
  | hostLogPop
  /-- HOST_PORT_SEL_WRITE, R44. -/
  | hostPortSelWrite (b : BitVec 8) (w : WriteEnd)
  /-- HOST_PORT_SEL_READ, R504. -/
  | hostPortSelRead
  /-- HOST_QUAD_SEL_WRITE, R44. -/
  | hostQuadSelWrite (b : BitVec 8) (w : WriteEnd)
  /-- HOST_QUAD_SEL_READ, R504. -/
  | hostQuadSelRead
  /-- HOST_SIGNPOST_PAGE, R508. -/
  | hostSignpostPage (b : BitVec 8) (w : WriteEnd)
  /-- HOST_SIGNPOST_READ, R508. -/
  | hostSignpostRead
  /-- HOST_PTR_WRITE, R504. -/
  | hostPtrWrite (i : BitVec 16) (w : WriteEnd)
  /-- HOST_PTR_READ, R504. -/
  | hostPtrRead
  /-- HOST_DATA_WRITE, R506. -/
  | hostDataWrite (count : BitVec 8) (vs : List Word) (w : WriteEnd)
  /-- HOST_DATA_PROCESS_CALL, R509. -/
  | hostDataProcessCall (n : BitVec 8)
  /-- HOST_DATA_READ, R507. -/
  | hostDataRead
  /-- HOST_DATA1_WRITE, R506. -/
  | hostData1Write (v : Word) (w : WriteEnd)
  /-- HOST_DATA1_READ, R507. -/
  | hostData1Read
  /-- HOST_HAMPER_QUERY, R504. -/
  | hostHamperQuery
  /-- HOST_CMD_NACK, R504. -/
  | hostCmdNack (code : BitVec 8)
  /-- HOST_WAKE_ADDRESS, R514. -/
  | hostWakeAddress
  /-- BUS_CLOCK_TIMEOUT, R515. -/
  | busClockTimeout (bus : Bus)
  /-- BUS_DATA_TIMEOUT, R516. -/
  | busDataTimeout (bus : Bus)
  /-- WHISTLE, R519. -/
  | whistle
  /-- WHISTLE_ABORT, R520. -/
  | whistleAbort
  /-- CONVOY_FRAME_START, R524. -/
  | convoyFrameStart (result : FrameEnd)
  /-- CONVOY_BACKOFF_EXPIRY, R526. -/
  | convoyBackoffExpiry (result : FrameEnd)
  /-- CONVOY_FRAME_DISCARD, R523. -/
  | convoyFrameDiscard (cause : DiscardCause)
  /-- CONVOY_BUS_CLEAR, R529. -/
  | convoyBusClear (released : Bool)
  /-- BUS_CLEAR_RETRY, R530. -/
  | busClearRetry (released : Bool)
  /-- CONVOY_LINK_DISABLE, R531. -/
  | convoyLinkDisable (m : Master) (v : Word)
  /-- LEADER_ELECTION, R534. -/
  | leaderElection
  /-- BUDGET_ROUND_START, R539. -/
  | budgetRoundStart
  /-- POLL_RECEIVED, R542. -/
  | pollReceived (from_ : Sender) (round : BitVec 16) (cycle : Word) (budget : BitVec 24) (present mayLead : BitVec 16)
  /-- HELLO_RECEIVED, R535. -/
  | helloReceived (from_ : Sender) (mayLead : Bool) (lim : BitVec 24)
  /-- JOIN_ACK_RECEIVED, R536. -/
  | joinAckReceived (from_ : Sender) (handover : Bool) (joiner : BitVec 24) (round : BitVec 16) (cycle : Word)
  /-- JOIN_REFUSED_RECEIVED, R536. -/
  | joinRefusedReceived (from_ : Sender) (site : Bool) (refused : BitVec 24) (retry : BitVec 8)
  /-- HELLO_RETRY, R536. -/
  | helloRetry
  /-- LEAVE_RECEIVED, R538. -/
  | leaveReceived (from_ : Sender)
  /-- DEMAND_RECEIVED, R540. -/
  | demandReceived (from_ : Sender) (round : BitVec 16) (d : Demand)
  /-- SHARE_COMPUTE, R543. -/
  | shareCompute
  /-- SHARE_RECEIVED, R540. -/
  | shareReceived (from_ : Sender) (round : BitVec 16) (high : Bool) (present : BitVec 8) (shares : Vector (BitVec 24) 8)
  /-- ROUND_MISSED, R545. -/
  | roundMissed
  /-- SHARE_HOLD_EXPIRY, R548. -/
  | shareHoldExpiry
  /-- HANDOVER_LAST_SYNC, R549. -/
  | handoverLastSync
  /-- HANDOVER_SYNC_START, R549. -/
  | handoverSyncStart
  /-- CONVOY_FW_SEND, R550. -/
  | convoyFwSend (m : Master) (v : Word)
  /-- FW_MSG_RX, R551. -/
  | fwMsgRx (sender : Fin 16) (broadcast : Bool) (type_ : BitVec 8) (payload : List Byte)
  /-- CONVOY_RX_RELEASE, R551. -/
  | convoyRxRelease (m : Master) (v : Word)
  /-- DENOC_SESSION_OPEN, R552. -/
  | denocSessionOpen (baud : BitVec 16)
  /-- DENOC_SESSION_TIMEOUT, R552. -/
  | denocSessionTimeout
  /-- DENOC_FRAME_ERROR, R555. -/
  | denocFrameError (head : Option (BitVec 8 × BitVec 8))
  /-- DENOC_INFO, R556. -/
  | denocInfo (seq : BitVec 8)
  /-- DENOC_ERASE_SLOT, R556. -/
  | denocEraseSlot (seq : BitVec 8) (slot : BitVec 8)
  /-- SLOT_ERASED, R556. -/
  | slotErased
  /-- DENOC_WRITE, R561. -/
  | denocWrite (seq : BitVec 8) (offset : Word) (bytes : List Byte)
  /-- DENOC_VERIFY, R562. -/
  | denocVerify (seq : BitVec 8) (slot : BitVec 8)
  /-- IMAGE_VERIFIED, R562. -/
  | imageVerified
  /-- DENOC_SCHEDULE, R565. -/
  | denocSchedule (seq : BitVec 8) (cycle : Word) (angle : BitVec 16) (flags : BitVec 8)
  /-- DENOC_ACTIVATE_NOW, R565. -/
  | denocActivateNow (seq : BitVec 8) (slot : BitVec 8)
  /-- DENOC_READ_LOG, R556. -/
  | denocReadLog (seq : BitVec 8) (first : BitVec 16) (rows : BitVec 8)
  /-- DENOC_ENTER_BASECAMP, R574. -/
  | denocEnterBasecamp (seq : BitVec 8) (key : BitVec 16)
  /-- DENOC_UNKNOWN_TYPE, R556. -/
  | denocUnknownType (seq : BitVec 8) (type_ : BitVec 8)
  /-- FW_ACT_GO, R565. -/
  | fwActGo (m : Master) (v : Word)
  /-- FW_ACT_CANCEL, R565. -/
  | fwActCancel (m : Master) (v : Word)
  /-- WARM_RESTART, R569. -/
  | warmRestart
  /-- ACTIVATION_SKIPPED, R567. -/
  | activationSkipped
  /-- PE_ADOPT, R571. -/
  | peAdopt (p : Fin 16) (v : Word)
  /-- FW_READY_OK, R571. -/
  | fwReadyOk (m : Master) (v : Word)
  /-- WARM_RESTART_TIMEOUT, R572. -/
  | warmRestartTimeout
  /-- FW_COMMIT, R563. -/
  | fwCommit (m : Master) (v : Word)
  /-- FLASH_PROGRAM, R577. -/
  | flashProgram (m : Master) (v : Word)
  /-- FLASH_ERASE, R577. -/
  | flashErase (m : Master) (v : Word)
  /-- FLASH_OP_DONE, R577. -/
  | flashOpDone (ok : Bool)
  /-- PE_HANDOVER_KIND_A, R162. -/
  | peHandoverKindA (p : Fin 16) (v : Word)
  /-- PE_HANDOVER_KIND_B, R111. -/
  | peHandoverKindB (p : Fin 16) (v : Word)
  /-- RX_SLOT_RELEASE, R137. -/
  | rxSlotRelease (p : Fin 16) (v : Word)
  /-- TRANSMIT_SLOT_QUEUE, R135. -/
  | transmitSlotQueue (p : Fin 16) (v : Word)
  /-- SINK_VBUS_DETECTED, R100. -/
  | sinkVbusDetected (p : Fin 16)
  /-- BURST_DETECT, R209. -/
  | burstDetect (p : Fin 16)
  /-- VCONN_REVERSE_BLOCK, R606. -/
  | vconnReverseBlock (p : Fin 16)
  deriving DecidableEq, Repr

end Sys2Proof
end

