-- ==== Sys2Proof/Decode.lean ====
section
/-! DEFINITION. The Burjo encodings (R411–R418, R433, R434, R440, R441): the word of an instruction, and the
instruction of a word, which rejects every reserved encoding. The opcode table gives its rows no bits, so
`decodeTableWord` spells no command. -/

namespace Sys2Proof

/-- The command that a word of the opcode table's bits spells: the table gives no row any bits. -/
def decodeTableWord (_nbits _w : Nat) : Option Instr := none

/-! ### Formats -/

/-- A register number as a field. -/
def reg5 (r : Fin 32) : BitVec 5 := BitVec.ofNat 5 r.val

/-- Format A. -/
def fmtA (op : BitVec 6) (rd ra rb : Fin 32) (fn : BitVec 6) : Word :=
  op ++ reg5 rd ++ reg5 ra ++ reg5 rb ++ (0 : BitVec 5) ++ fn

/-- Formats I and M. -/
def fmtI (op : BitVec 6) (rd ra : Fin 32) (imm : BitVec 16) : Word :=
  op ++ reg5 rd ++ reg5 ra ++ imm

/-- Format B, long. -/
def fmtL (op : BitVec 6) (disp : BitVec 26) : Word := op ++ disp

/-- Format S. -/
def fmtS (op : BitVec 6) (reg : Fin 32) (sub : BitVec 5) (operand : BitVec 16) : Word :=
  op ++ reg5 reg ++ sub ++ operand

/-- The word of an instruction (R416–R418, R433, R440); `none` for the commands that are no Burjo instruction. -/
def encodeBurjo : Instr → Option Word
  | .add _ rd ra rb => some (fmtA 0x00 rd ra rb 0x00)
  | .sub _ rd ra rb => some (fmtA 0x00 rd ra rb 0x01)
  | .and _ rd ra rb => some (fmtA 0x00 rd ra rb 0x02)
  | .or _ rd ra rb => some (fmtA 0x00 rd ra rb 0x03)
  | .xor _ rd ra rb => some (fmtA 0x00 rd ra rb 0x04)
  | .slt _ rd ra rb => some (fmtA 0x00 rd ra rb 0x05)
  | .sltu _ rd ra rb => some (fmtA 0x00 rd ra rb 0x06)
  | .neg _ rd ra => some (fmtA 0x00 rd ra 0 0x07)
  | .sadd _ rd ra rb => some (fmtA 0x00 rd ra rb 0x08)
  | .ssub _ rd ra rb => some (fmtA 0x00 rd ra rb 0x09)
  | .shl _ rd ra rb => some (fmtA 0x00 rd ra rb 0x0A)
  | .shr _ rd ra rb => some (fmtA 0x00 rd ra rb 0x0B)
  | .sar _ rd ra rb => some (fmtA 0x00 rd ra rb 0x0C)
  | .rot _ rd ra rb => some (fmtA 0x00 rd ra rb 0x0D)
  | .mul _ rd ra rb => some (fmtA 0x01 rd ra rb 0x00)
  | .mulh _ rd ra rb => some (fmtA 0x01 rd ra rb 0x01)
  | .mulhu _ rd ra rb => some (fmtA 0x01 rd ra rb 0x02)
  | .div _ rd ra rb => some (fmtA 0x01 rd ra rb 0x03)
  | .divu _ rd ra rb => some (fmtA 0x01 rd ra rb 0x04)
  | .rem _ rd ra rb => some (fmtA 0x01 rd ra rb 0x05)
  | .remu _ rd ra rb => some (fmtA 0x01 rd ra rb 0x06)
  | .addi _ rd ra imm => some (fmtI 0x08 rd ra imm)
  | .andi _ rd ra imm => some (fmtI 0x09 rd ra imm)
  | .ori _ rd ra imm => some (fmtI 0x0A rd ra imm)
  | .xori _ rd ra imm => some (fmtI 0x0B rd ra imm)
  | .slti _ rd ra imm => some (fmtI 0x0C rd ra imm)
  | .sltiu _ rd ra imm => some (fmtI 0x0D rd ra imm)
  | .lui _ rd imm => some (fmtI 0x0E rd 0 imm)
  | .shli _ rd ra amt => some (fmtI 0x10 rd ra (amt.setWidth 16))
  | .shri _ rd ra amt => some (fmtI 0x11 rd ra (amt.setWidth 16))
  | .sari _ rd ra amt => some (fmtI 0x12 rd ra (amt.setWidth 16))
  | .roti _ rd ra amt => some (fmtI 0x13 rd ra (amt.setWidth 16))
  | .ldw _ rd ra off => some (fmtI 0x18 rd ra off)
  | .ldh _ rd ra off => some (fmtI 0x19 rd ra off)
  | .ldhu _ rd ra off => some (fmtI 0x1A rd ra off)
  | .ldb _ rd ra off => some (fmtI 0x1B rd ra off)
  | .ldbu _ rd ra off => some (fmtI 0x1C rd ra off)
  | .stw _ rd ra off => some (fmtI 0x20 rd ra off)
  | .sth _ rd ra off => some (fmtI 0x21 rd ra off)
  | .stb _ rd ra off => some (fmtI 0x22 rd ra off)
  | .beq _ ra rb disp => some (fmtI 0x28 ra rb disp)
  | .bne _ ra rb disp => some (fmtI 0x29 ra rb disp)
  | .blt _ ra rb disp => some (fmtI 0x2A ra rb disp)
  | .bge _ ra rb disp => some (fmtI 0x2B ra rb disp)
  | .bltu _ ra rb disp => some (fmtI 0x2C ra rb disp)
  | .bgeu _ ra rb disp => some (fmtI 0x2D ra rb disp)
  | .jmp _ disp => some (fmtL 0x2E disp)
  | .call _ disp => some (fmtL 0x2F disp)
  | .pushl _ mask => some (fmtS 0x3E 0 0x00 mask)
  | .popl _ mask => some (fmtS 0x3E 0 0x01 mask)
  | .pushh _ mask => some (fmtS 0x3E 0 0x02 mask)
  | .poph _ mask => some (fmtS 0x3E 0 0x03 mask)
  | .ret _ => some (fmtS 0x3E 0 0x04 0)
  | .jmpr _ reg => some (fmtS 0x3E reg 0x05 0)
  | .callr _ reg => some (fmtS 0x3E reg 0x06 0)
  | .addsp _ operand => some (fmtS 0x3E 0 0x07 operand)
  | .nop _ => some (fmtS 0x3F 0 0x00 0)
  | .mfc _ reg ctl => some (fmtS 0x3F reg 0x01 (ctl.setWidth 16))
  | .mtc _ reg ctl => some (fmtS 0x3F reg 0x02 (ctl.setWidth 16))
  | .trap _ operand => some (fmtS 0x3F 0 0x03 operand)
  | .brk _ => some (fmtS 0x3F 0 0x04 0)
  | .eret _ => some (fmtS 0x3F 0 0x05 0)
  | .wait _ => some (fmtS 0x3F 0 0x06 0)
  | .fence _ => some (fmtS 0x3F 0 0x07 0)
  | .reservedEncoding _ w => some w
  | _ => none

/-! ### The instruction of a word -/

/-- The register field at a bit. -/
def regField (w : Word) (lo : Nat) : Fin 32 := (w.extractLsb' lo 5).toFin

/-- The engine has the register (R412, R413): a port engine, 0 to 15, has g0 to g15. -/
def hasReg (e : Fin 18) (r : Fin 32) : Bool := 16 ≤ e.val || r.val < 16

/-- The ALU group (R417). -/
def decodeAlu (e : Fin 18) (fn : BitVec 6) (rd ra rb : Fin 32) : Option Instr :=
  match fn.toNat with
  | 0x00 => some (.add e rd ra rb)
  | 0x01 => some (.sub e rd ra rb)
  | 0x02 => some (.and e rd ra rb)
  | 0x03 => some (.or e rd ra rb)
  | 0x04 => some (.xor e rd ra rb)
  | 0x05 => some (.slt e rd ra rb)
  | 0x06 => some (.sltu e rd ra rb)
  | 0x07 => if rb = 0 then some (.neg e rd ra) else none
  | 0x08 => some (.sadd e rd ra rb)
  | 0x09 => some (.ssub e rd ra rb)
  | 0x0A => some (.shl e rd ra rb)
  | 0x0B => some (.shr e rd ra rb)
  | 0x0C => some (.sar e rd ra rb)
  | 0x0D => some (.rot e rd ra rb)
  | _ => none

/-- The multiply and divide group (R418). -/
def decodeMul (e : Fin 18) (fn : BitVec 6) (rd ra rb : Fin 32) : Option Instr :=
  match fn.toNat with
  | 0x00 => some (.mul e rd ra rb)
  | 0x01 => some (.mulh e rd ra rb)
  | 0x02 => some (.mulhu e rd ra rb)
  | 0x03 => some (.div e rd ra rb)
  | 0x04 => some (.divu e rd ra rb)
  | 0x05 => some (.rem e rd ra rb)
  | 0x06 => some (.remu e rd ra rb)
  | _ => none

/-- An amount of SHLI to ROTI: bits [15:5] of the immediate are zero. -/
def shiftAmount (imm : BitVec 16) (f : BitVec 5 → Instr) : Option Instr :=
  if imm.extractLsb' 5 11 = 0 then some (f (imm.extractLsb' 0 5)) else none

/-- A control register that MFC may name (R441). -/
def ctlReads (c : BitVec 8) : Bool := c.toNat < 0x10

/-- A control register that MTC may name (R441): not CORE_ID, IRQ_PEND or TIME. -/
def ctlWrites (c : BitVec 8) : Bool := ctlReads c && c != 0x00 && c != 0x0C && c != 0x0E

/-- The stack group (R433, R434). -/
def decodeStack (e : Fin 18) (sub : BitVec 5) (reg : Fin 32) (x : BitVec 16) : Option Instr :=
  match sub.toNat with
  | 0x00 => if reg = 0 ∧ x ≠ 0 ∧ x.getLsbD 0 = false then some (.pushl e x) else none
  | 0x01 => if reg = 0 ∧ x ≠ 0 ∧ x.getLsbD 0 = false then some (.popl e x) else none
  | 0x02 => if reg = 0 ∧ x ≠ 0 ∧ 16 ≤ e.val then some (.pushh e x) else none
  | 0x03 => if reg = 0 ∧ x ≠ 0 ∧ 16 ≤ e.val then some (.poph e x) else none
  | 0x04 => if reg = 0 ∧ x = 0 then some (.ret e) else none
  | 0x05 => if x = 0 ∧ hasReg e reg then some (.jmpr e reg) else none
  | 0x06 => if x = 0 ∧ hasReg e reg then some (.callr e reg) else none
  | 0x07 => if reg = 0 ∧ x.extractLsb' 0 2 = 0 then some (.addsp e x) else none
  | _ => none

/-- The system group (R440, R441). -/
def decodeSystem (e : Fin 18) (sub : BitVec 5) (reg : Fin 32) (x : BitVec 16) : Option Instr :=
  match sub.toNat with
  | 0x00 => if reg = 0 ∧ x = 0 then some (.nop e) else none
  | 0x01 =>
    if x.extractLsb' 8 8 = 0 ∧ hasReg e reg ∧ ctlReads (x.extractLsb' 0 8) then some (.mfc e reg (x.extractLsb' 0 8))
    else none
  | 0x02 =>
    if x.extractLsb' 8 8 = 0 ∧ hasReg e reg ∧ ctlWrites (x.extractLsb' 0 8) then some (.mtc e reg (x.extractLsb' 0 8))
    else none
  | 0x03 => if reg = 0 then some (.trap e x) else none
  | 0x04 => if reg = 0 ∧ x = 0 then some (.brk e) else none
  | 0x05 => if reg = 0 ∧ x = 0 then some (.eret e) else none
  | 0x06 => if reg = 0 ∧ x = 0 then some (.wait e) else none
  | 0x07 => if reg = 0 ∧ x = 0 then some (.fence e) else none
  | _ => none

/-- Formats I, M and B with two register fields. -/
def decodeImm (e : Fin 18) (op : BitVec 6) (rd ra : Fin 32) (imm : BitVec 16) : Option Instr :=
  match op.toNat with
  | 0x08 => some (.addi e rd ra imm)
  | 0x09 => some (.andi e rd ra imm)
  | 0x0A => some (.ori e rd ra imm)
  | 0x0B => some (.xori e rd ra imm)
  | 0x0C => some (.slti e rd ra imm)
  | 0x0D => some (.sltiu e rd ra imm)
  | 0x0E => if ra = 0 then some (.lui e rd imm) else none
  | 0x10 => shiftAmount imm (.shli e rd ra)
  | 0x11 => shiftAmount imm (.shri e rd ra)
  | 0x12 => shiftAmount imm (.sari e rd ra)
  | 0x13 => shiftAmount imm (.roti e rd ra)
  | 0x18 => some (.ldw e rd ra imm)
  | 0x19 => some (.ldh e rd ra imm)
  | 0x1A => some (.ldhu e rd ra imm)
  | 0x1B => some (.ldb e rd ra imm)
  | 0x1C => some (.ldbu e rd ra imm)
  | 0x20 => some (.stw e rd ra imm)
  | 0x21 => some (.sth e rd ra imm)
  | 0x22 => some (.stb e rd ra imm)
  | 0x28 => some (.beq e rd ra imm)
  | 0x29 => some (.bne e rd ra imm)
  | 0x2A => some (.blt e rd ra imm)
  | 0x2B => some (.bge e rd ra imm)
  | 0x2C => some (.bltu e rd ra imm)
  | 0x2D => some (.bgeu e rd ra imm)
  | _ => none

/-- The instruction of a word on an engine; `none` for a reserved encoding (R413–R415, R434, R441). -/
def decodeBurjo (e : Fin 18) (w : Word) : Option Instr :=
  let op := w.extractLsb' 26 6
  let rd := regField w 21
  let ra := regField w 16
  let rb := regField w 11
  if w = 0 then none
  else
    match op.toNat with
    | 0x00 =>
      if w.extractLsb' 6 5 = 0 ∧ hasReg e rd ∧ hasReg e ra ∧ hasReg e rb then decodeAlu e (w.extractLsb' 0 6) rd ra rb
      else none
    | 0x01 =>
      if w.extractLsb' 6 5 = 0 ∧ hasReg e rd ∧ hasReg e ra ∧ hasReg e rb then decodeMul e (w.extractLsb' 0 6) rd ra rb
      else none
    | 0x2E => some (.jmp e (w.extractLsb' 0 26))
    | 0x2F => some (.call e (w.extractLsb' 0 26))
    | 0x3E => decodeStack e (w.extractLsb' 16 5) rd (w.extractLsb' 0 16)
    | 0x3F => decodeSystem e (w.extractLsb' 16 5) rd (w.extractLsb' 0 16)
    | _ => if hasReg e rd ∧ hasReg e ra then decodeImm e op rd ra (w.extractLsb' 0 16) else none

end Sys2Proof
end

