-- ==== Sys2Proof/Config.lean ====
section
/-! DEFINITION. The free values: what the spec leaves open and the model does not choose. Nothing can evaluate them. -/

namespace Sys2Proof

/-- The bytes of boot ROM outside the Signpost table (log entry 15): the spec gives their place (R399), not their content. -/
opaque Config.bootRomByte : Nat → Byte

/-- Whether a signature block is good (R559, log entry 10): its key's SHA-256 is the key hash in OTP, and its signature
verifies over the SHA-256 of the signed bytes. Arguments are the key hash, the signed bytes, and the block. -/
opaque Config.signatureValid : List Byte → List Byte → List Byte → Bool

/-- The conversion ratio of a voltage, or the scaled correction of one, where the voltage it is divided by reads 0 (log entry
94): chapter 07 states no result of that division. -/
opaque Config.ratioByZero : Nat → Nat

/-- By how much the loop engine lowers the current reference in REVERSE while VBUS is that far below its floor, in 10 mV (R308:
as far as needed; log entry 94). -/
opaque Config.revLowering : Nat → Nat

/-- The n-th free value of a run (log entry 14): a result, reply word or position the spec leaves open. -/
opaque Config.freeValue : Nat → Word

end Sys2Proof
end

