-- ==== Sys2Proof/Machine/Crc.lean ====
section
/-! DEFINITION. The CRC engine of R484 and R485, one bit at a time, and the CRC-32 of R358. -/

namespace Sys2Proof.Machine

/-- What sets a CRC: width 1 to 32, polynomial, initial value, reflections and final xor. -/
structure CrcCfg where
  width : Nat
  poly : Nat
  init : Nat
  refin : Bool
  refout : Bool
  xorout : Nat

/-- The low `n` bits of a number in reverse order. -/
def reverseBits : Nat → Nat → Nat
  | 0, _ => 0
  | n + 1, v => v % 2 * 2 ^ n + reverseBits n (v / 2)

/-- One bit into the register. -/
def crcBit (c : CrcCfg) (reg : Nat) (b : Bool) : Nat :=
  let shifted := reg * 2 % 2 ^ c.width
  if (reg / 2 ^ (c.width - 1) % 2 == 1) != b then shifted ^^^ (c.poly % 2 ^ c.width) else shifted

/-- The bits of a byte in the order they enter. -/
def crcBits (refin : Bool) (v : Nat) : List Bool :=
  let lsb := [0, 1, 2, 3, 4, 5, 6, 7].map v.testBit
  if refin then lsb else lsb.reverse

/-- One byte into the register. -/
def crcByte (c : CrcCfg) (reg : Nat) (b : Byte) : Nat := (crcBits c.refin b.toNat).foldl (crcBit c) reg

/-- Several bytes into the register. -/
def crcFeed (c : CrcCfg) (reg : Nat) (bs : List Byte) : Nat := bs.foldl (crcByte c) reg

/-- The result that the register gives. -/
def crcResult (c : CrcCfg) (reg : Nat) : Nat :=
  (if c.refout then reverseBits c.width reg else reg) ^^^ (c.xorout % 2 ^ c.width)

/-- CRC-32 as R358 sets it. -/
def crc32Cfg : CrcCfg := ⟨32, 0x04C11DB7, 0xFFFFFFFF, true, true, 0xFFFFFFFF⟩

/-- CRC-32 of some bytes (R358). -/
def crc32 (bs : List Byte) : Nat := crcResult crc32Cfg (crcFeed crc32Cfg 0xFFFFFFFF bs)

/-- The CRC-8 of R512. -/
def crc8Cfg : CrcCfg := ⟨8, 0x07, 0x00, false, false, 0x00⟩

/-- The PEC of the bytes of a transaction (R512). -/
def pec (bs : List Byte) : Byte := BitVec.ofNat 8 (crcResult crc8Cfg (crcFeed crc8Cfg 0 bs))

end Sys2Proof.Machine
end

