-- ==== Sys2Proof/Machine/RegTable.lean ====
section
/-! DEFINITION. The register map as data: for every register of the field tables of spec/, which bits a write
stores (RW), clears (W1C) or acts with (WO), which bits a read clears (RC), and the codes that are legal in every
state (R583). Codes that are reserved only in some state (R584) are judged by `writeLegalNow`. Reset words follow
the Reset column; a field whose column reads "Card, else x" holds x until the card is applied (R360). -/

namespace Sys2Proof.Machine

/-- The legal codes of one field: lowest bit, width, inclusive ranges. -/
structure LegalCodes where
  lo : Nat
  width : Nat
  ranges : List (Nat × Nat)
  deriving DecidableEq, Repr

/-- One register, or `count` registers `stride` words apart. -/
structure RegRow where
  key : Nat
  count : Nat
  stride : Nat
  rw : Nat
  w1c : Nat
  rc : Nat
  wo : Nat
  legal : List LegalCodes
  deriving DecidableEq, Repr

/-- Registers of block SELECT, per-master copies. -/
def masterSelectRows : List RegRow :=
  [ ⟨0xF000, 1, 0, 0xF, 0x0, 0x0, 0x0, []⟩  -- PORT_SEL
  , ⟨0xF001, 1, 0, 0x3, 0x0, 0x0, 0x0, []⟩  -- QUAD_SEL
  , ⟨0xF004, 1, 0, 0x0, 0x0, 0x0, 0x0, []⟩  -- SEL_VIEW
  ]

/-- Registers of block SUNDIAL. -/
def sundialRows : List RegRow :=
  [ ⟨0x1000, 1, 0, 0x0, 0x0, 0x0, 0x0, []⟩  -- SUN_CFG
  , ⟨0x1001, 1, 0, 0x0, 0x0, 0x0, 0x0, []⟩  -- SUN_STATUS
  , ⟨0x1002, 1, 0, 0x0, 0x0, 0x0, 0x0, []⟩  -- SUN_NOW
  , ⟨0x1003, 1, 0, 0x0, 0x0, 0x0, 0x0, []⟩  -- SUN_CYCLE
  , ⟨0x1005, 1, 0, 0x0, 0x0, 0x0, 0x0, []⟩  -- SUN_FREQ
  , ⟨0x1006, 1, 0, 0xFFFF, 0x0, 0x0, 0x0, [⟨0, 16, [(4500, 6600)]⟩]⟩  -- SUN_FREE_FREQ
  , ⟨0x1007, 1, 0, 0x1FF, 0x0, 0x0, 0x0, [⟨4, 5, [(2, 16)]⟩, ⟨0, 4, [(1, 8)]⟩]⟩  -- SUN_LOSS
  , ⟨0x1008, 1, 0, 0xFFFFF, 0x0, 0x0, 0x0, []⟩  -- SUN_ACZ
  , ⟨0x1009, 1, 0, 0x0, 0x0, 0xFFFF, 0x0, []⟩  -- SUN_COUNT
  , ⟨0x1012, 1, 0, 0x0, 0x0, 0x0, 0x1F, [⟨0, 5, [(5, 31)]⟩]⟩  -- SLOT_CANCEL
  , ⟨0x1014, 1, 0, 0x0, 0x0, 0x0, 0x0, []⟩  -- SLOT_BUSY
  , ⟨0x1015, 1, 0, 0x0, 0xFFFFFFE0, 0x0, 0x0, []⟩  -- SLOT_FIRED
  , ⟨0x1016, 1, 0, 0x0, 0xFFFFFFE0, 0x0, 0x0, []⟩  -- SLOT_LATE
  , ⟨0x1040, 32, 2, 0x0, 0x0, 0x0, 0x0, []⟩  -- SLOT_TGT_CYCLE
  , ⟨0x1041, 32, 2, 0x0, 0x0, 0x0, 0x0, []⟩  -- SLOT_TGT_ANGLE
  ]

/-- Registers of block SUNDIAL, per-master copies. -/
def masterSundialRows : List RegRow :=
  [ ⟨0x1004, 1, 0, 0x0, 0x0, 0x0, 0x0, []⟩  -- SUN_SNAP
  , ⟨0x1010, 1, 0, 0xFFFFFFFF, 0x0, 0x0, 0x0, []⟩  -- SLOT_REQ_CYCLE
  , ⟨0x1011, 1, 0, 0x0, 0x0, 0x0, 0x1FFFF, []⟩  -- SLOT_REQ
  , ⟨0x1013, 1, 0, 0x0, 0x0, 0x0, 0x0, []⟩  -- SLOT_RESULT
  ]

/-- Registers of block PORT. -/
def portPortRows : List RegRow :=
  [ ⟨0x0, 1, 0, 0x7D, 0x0, 0x0, 0x80, [⟨4, 2, [(0, 2)]⟩, ⟨2, 2, [(0, 2)]⟩]⟩  -- PORT_CTRL
  , ⟨0x1, 1, 0, 0x0, 0x0, 0x0, 0x0, []⟩  -- PORT_STATUS
  , ⟨0x2, 1, 0, 0xFFFFFFFF, 0x0, 0x0, 0x0, [⟨24, 8, [(30, 70)]⟩, ⟨16, 8, [(50, 100)]⟩, ⟨8, 8, [(10, 20)]⟩, ⟨0, 8, [(100, 200)]⟩]⟩  -- TC_TIMER1
  , ⟨0x3, 1, 0, 0xFFFFFFFF, 0x0, 0x0, 0x0, [⟨24, 8, [(10, 65)]⟩, ⟨16, 8, [(20, 100)]⟩, ⟨8, 8, [(55, 110)]⟩, ⟨0, 8, [(75, 150)]⟩]⟩  -- TC_TIMER2
  , ⟨0x4, 1, 0, 0x0, 0x0, 0x0, 0x0, []⟩  -- CC_VOLT
  , ⟨0x5, 1, 0, 0xFF01, 0x0, 0x0, 0x0, [⟨8, 8, [(5, 18)]⟩]⟩  -- VCONN_CTRL
  , ⟨0x6, 1, 0, 0x3, 0x0, 0x0, 0x0, [⟨0, 2, [(0, 1)]⟩]⟩  -- BC12_CTRL
  , ⟨0x7, 1, 0, 0x0, 0x0, 0xFFFFFFFF, 0x0, []⟩  -- ATTACH_CNT
  , ⟨0x10, 1, 0, 0xF07D, 0x0, 0x0, 0x0, [⟨12, 4, [(2, 15)]⟩]⟩  -- PD_CTRL
  , ⟨0x11, 1, 0, 0x0, 0x0, 0x0, 0x0, []⟩  -- PD_STATUS
  , ⟨0x12, 1, 0, 0x0, 0x0, 0x0, 0x0, []⟩  -- CONTRACT_RDO
  , ⟨0x13, 1, 0, 0x0, 0x0, 0x0, 0x0, []⟩  -- CONTRACT_PDO
  , ⟨0x14, 1, 0, 0x0, 0x0, 0x0, 0x0, []⟩  -- CONTRACT_VI
  , ⟨0x15, 1, 0, 0x0, 0x0, 0x0, 0x0, []⟩  -- CONTRACT_PWR
  , ⟨0x16, 1, 0, 0x0, 0x0, 0x0, 0x0, []⟩  -- CAPS_INFO
  , ⟨0x17, 1, 0, 0x0, 0x0, 0x0, 0x0, []⟩  -- CABLE_ID
  , ⟨0x18, 1, 0, 0x0, 0x0, 0x0, 0x0, []⟩  -- PARTNER_INFO
  , ⟨0x19, 1, 0, 0x0, 0x0, 0x0, 0x0, []⟩  -- BATT_STATUS
  , ⟨0x1A, 1, 0, 0x0, 0x0, 0xFFFFFFFF, 0x0, []⟩  -- PD_CNT1
  , ⟨0x1B, 1, 0, 0x0, 0x0, 0xFFFFFFFF, 0x0, []⟩  -- PD_CNT2
  , ⟨0x1C, 1, 0, 0x0, 0x0, 0xFFFFFFFF, 0x0, []⟩  -- PD_CNT3
  , ⟨0x1D, 1, 0, 0xFFFFFF, 0x0, 0x0, 0x0, [⟨16, 8, [(66, 100)]⟩, ⟨8, 8, [(26, 35)]⟩, ⟨0, 8, [(24, 30)]⟩]⟩  -- PD_TIMER
  , ⟨0x1E, 1, 0, 0x0, 0x7FF, 0x0, 0x0, []⟩  -- PD_EVENT
  , ⟨0x20, 1, 0, 0x0, 0x0, 0x0, 0x0, []⟩  -- PORT_LEDGER
  , ⟨0x21, 1, 0, 0x0, 0x0, 0x0, 0x0, []⟩  -- PORT_HELD
  , ⟨0x22, 1, 0, 0x0, 0x0, 0x0, 0x0, []⟩  -- PORT_HSTATE
  , ⟨0x23, 1, 0, 0x0, 0x0, 0x0, 0x0, []⟩  -- PORT_RAMP
  , ⟨0x24, 1, 0, 0xFFC0, 0x0, 0x0, 0xF, [⟨10, 2, [(0, 2)]⟩, ⟨8, 2, [(0, 2)]⟩, ⟨6, 2, [(0, 1)]⟩, ⟨0, 4, [(0, 3)]⟩]⟩  -- SWAP_CTRL
  , ⟨0x25, 1, 0, 0x0, 0x0, 0x0, 0x0, []⟩  -- SWAP_STATUS
  , ⟨0x26, 1, 0, 0x0, 0x0, 0x0, 0x0, []⟩  -- BIV_PORT
  , ⟨0x27, 1, 0, 0x0, 0x0, 0xFFFFFFFF, 0x0, []⟩  -- SWAP_CNT
  , ⟨0x28, 1, 0, 0xFFFFFF, 0x0, 0x0, 0x0, [⟨17, 7, [(10, 120)]⟩, ⟨10, 7, [(10, 120)]⟩, ⟨0, 10, [(150, 800)]⟩]⟩  -- STAGE_CFG
  , ⟨0x29, 1, 0, 0xF3B, 0x0, 0x0, 0x0, [⟨4, 2, [(0, 2)]⟩, ⟨0, 2, [(0, 2)]⟩]⟩  -- STAGE_CTRL
  , ⟨0x2A, 1, 0, 0xFFFF, 0x0, 0x0, 0x0, [⟨0, 16, [(0, 0), (330, 5000)]⟩]⟩  -- STAGE_VSET
  , ⟨0x2B, 1, 0, 0xFFFF, 0x0, 0x0, 0x0, [⟨0, 16, [(0, 5500)]⟩]⟩  -- STAGE_ILIM
  , ⟨0x2C, 1, 0, 0xFFF0FFF, 0x0, 0x0, 0x0, [⟨16, 12, [(10, 3000)]⟩, ⟨0, 12, [(10, 3000)]⟩]⟩  -- STAGE_SLEW
  , ⟨0x2D, 1, 0, 0xFFFFFFFF, 0x0, 0x0, 0x0, [⟨24, 8, [(80, 98)]⟩, ⟨16, 8, [(0, 100)]⟩, ⟨0, 16, [(2000, 5600)]⟩]⟩  -- STAGE_REV
  , ⟨0x2E, 1, 0, 0xFF00FFFF, 0x0, 0x0, 0x0, [⟨24, 8, [(60, 125)]⟩, ⟨8, 8, [(10, 60)]⟩, ⟨0, 8, [(10, 60)]⟩]⟩  -- STAGE_PROT
  , ⟨0x2F, 1, 0, 0x0, 0x0, 0x0, 0x0, []⟩  -- STAGE_STATUS
  , ⟨0x30, 1, 0, 0x0, 0x0, 0x0, 0x0, []⟩  -- STAGE_TELEM1
  , ⟨0x31, 1, 0, 0x0, 0x0, 0x0, 0x0, []⟩  -- STAGE_TELEM2
  , ⟨0x32, 3, 2, 0xFFFFFFFF, 0x0, 0x0, 0x0, []⟩  -- COEF_V
  , ⟨0x33, 3, 2, 0xFFFFFFFF, 0x0, 0x0, 0x0, []⟩  -- COEF_I
  , ⟨0x38, 1, 0, 0x43, 0x0, 0x0, 0x80, []⟩  -- PASS_CTRL
  , ⟨0x39, 1, 0, 0x0, 0x0, 0x0, 0x0, []⟩  -- PASS_STATUS
  , ⟨0x3A, 1, 0, 0xFFFF, 0x0, 0x0, 0x0, [⟨0, 16, [(500, 6000)]⟩]⟩  -- PASS_LIMIT
  , ⟨0x3B, 1, 0, 0x3F0F, 0x0, 0x0, 0x0, []⟩  -- PASS_INRUSH
  , ⟨0x3C, 1, 0, 0x3FF1F00, 0x0, 0x0, 0x0, [⟨16, 10, [(1, 1000)]⟩, ⟨8, 5, [(10, 20)]⟩]⟩  -- PASS_SOA
  , ⟨0x3D, 1, 0, 0x0, 0x0, 0x0, 0x0, []⟩  -- PASS_MEAS
  , ⟨0x3E, 1, 0, 0x0, 0x0, 0xFFFF0000, 0x0, []⟩  -- PASS_ENERGY
  , ⟨0x3F, 1, 0, 0xFFFF, 0x0, 0x0, 0x0, [⟨0, 16, [(330, 1500)]⟩]⟩  -- LEAK_CFG
  , ⟨0x40, 1, 0, 0x0, 0x7FF, 0x0, 0x0, []⟩  -- PORT_FAULT
  ]

/-- Registers of block HAMPER. -/
def hamperRows : List RegRow :=
  [ ⟨0x2000, 1, 0, 0xFC, 0x0, 0x0, 0x0, []⟩  -- HAMPER_CTRL
  , ⟨0x2001, 1, 0, 0x0, 0x0, 0x0, 0x0, []⟩  -- HAMPER_STATUS
  , ⟨0x2002, 1, 0, 0x0, 0x0, 0x0, 0x0, []⟩  -- HUB_CAP
  , ⟨0x2003, 1, 0, 0xFFFFFF, 0x0, 0x0, 0x0, [⟨0, 24, [(0, 65535), (16777215, 16777215)]⟩]⟩  -- HUB_DERATE
  , ⟨0x2004, 1, 0, 0x0, 0x0, 0x0, 0x0, []⟩  -- RACK_SHARE
  , ⟨0x2005, 1, 0, 0x0, 0x0, 0x0, 0x0, []⟩  -- HUB_LIMIT
  , ⟨0x2006, 1, 0, 0x0, 0x0, 0x0, 0x0, []⟩  -- HUB_COMMITTED
  , ⟨0x2007, 1, 0, 0x0, 0x0, 0x0, 0x0, []⟩  -- HUB_TENTATIVE
  , ⟨0x2008, 1, 0, 0x0, 0x0, 0x0, 0x0, []⟩  -- HUB_STANDBY
  , ⟨0x2009, 1, 0, 0x0, 0x0, 0x0, 0x0, []⟩  -- HUB_OVERCUT
  , ⟨0x200C, 4, 1, 0xFFFF, 0x0, 0x0, 0x0, []⟩  -- QUAD_DERATE
  , ⟨0x2010, 4, 1, 0x0, 0x0, 0x0, 0x0, []⟩  -- QUAD_TOTAL
  , ⟨0x2014, 1, 0, 0xFFFFFFFF, 0x0, 0x0, 0x0, [⟨16, 16, [(25, 2400)]⟩, ⟨0, 16, [(25, 2400)]⟩]⟩  -- HAMPER_POLICY
  , ⟨0x2015, 1, 0, 0xFFF0003F, 0x0, 0x0, 0x0, [⟨24, 8, [(4, 100)]⟩, ⟨20, 4, [(2, 15)]⟩]⟩  -- CLASS_CFG
  , ⟨0x2016, 1, 0, 0xFFFF0007, 0x0, 0x0, 0x0, [⟨16, 16, [(0, 32767)]⟩, ⟨0, 3, [(1, 4)]⟩]⟩  -- RAMP_CFG
  , ⟨0x2017, 1, 0, 0xFFFFFFFF, 0x0, 0x0, 0x0, [⟨16, 16, [(0, 32767)]⟩, ⟨8, 8, [(6, 25)]⟩, ⟨0, 8, [(40, 100)]⟩]⟩  -- AUDIT_CFG
  , ⟨0x2018, 1, 0, 0x0, 0x0, 0x0, 0x1F, []⟩  -- HAMPER_VETO
  , ⟨0x2019, 1, 0, 0x0, 0x0, 0x0, 0x803FFFFF, []⟩  -- AUX_CLAIM
  , ⟨0x201B, 1, 0, 0x0, 0x80000000, 0x0, 0x0, []⟩  -- AUDIT_CAPTURE
  , ⟨0x201C, 1, 0, 0x0, 0x0, 0x0, 0x0, []⟩  -- AUDIT_STORED
  , ⟨0x201D, 1, 0, 0x0, 0x0, 0x0, 0x0, []⟩  -- AUDIT_FOUND
  , ⟨0x201E, 1, 0, 0x0, 0x0, 0xFFFFFFFF, 0x0, []⟩  -- HAMPER_CNT1
  , ⟨0x201F, 1, 0, 0x0, 0x0, 0xFFFFFFFF, 0x0, []⟩  -- HAMPER_CNT2
  ]

/-- Registers of block HAMPER, per-master copies. -/
def masterHamperRows : List RegRow :=
  [ ⟨0x201A, 1, 0, 0x0, 0x4, 0x0, 0x0, []⟩  -- AUX_RESULT
  ]

/-- Registers of block SYS. -/
def sysRows : List RegRow :=
  [ ⟨0x80, 1, 0, 0x3, 0x0, 0x0, 0xC, []⟩  -- BIVOUAC_CTRL
  , ⟨0x81, 1, 0, 0xFFFFFFF0, 0x0, 0x0, 0x0, [⟨16, 16, [(0, 0), (2000, 5600)]⟩, ⟨8, 8, [(80, 100)]⟩, ⟨4, 4, [(1, 8)]⟩]⟩  -- BIVOUAC_CFG
  , ⟨0x82, 1, 0, 0xFFFFFFFF, 0x0, 0x0, 0x0, [⟨16, 16, [(150, 2400)]⟩, ⟨8, 8, [(1, 60)]⟩, ⟨0, 8, [(50, 210)]⟩]⟩  -- BIVOUAC_CFG2
  , ⟨0x83, 1, 0, 0x0, 0x0, 0x0, 0x0, []⟩  -- BIVOUAC_STATUS
  , ⟨0x84, 1, 0, 0x0, 0x0, 0x0, 0x0, []⟩  -- ISLAND_BUDGET
  , ⟨0x85, 1, 0, 0x0, 0x0, 0x0, 0x0, []⟩  -- SHED_MASK
  , ⟨0x0, 1, 0, 0x0, 0x0, 0x0, 0x0, []⟩  -- SYS_STATUS
  , ⟨0x1, 1, 0, 0x0, 0x0, 0x0, 0x0, []⟩  -- START_TIME
  , ⟨0x2, 1, 0, 0x0, 0x0, 0x0, 0x0, []⟩  -- CAL_STATUS
  , ⟨0x3, 1, 0, 0x10, 0x0, 0x0, 0xFF03, []⟩  -- SYS_MODE
  , ⟨0x4, 1, 0, 0xFF07, 0x0, 0x0, 0x0, [⟨8, 8, [(10, 255)]⟩]⟩  -- WAKE_CFG
  , ⟨0x5, 1, 0, 0x0, 0x0, 0x0, 0x0, []⟩  -- WAKE_CAUSE
  , ⟨0x8, 1, 0, 0x0, 0x0, 0x0, 0x0, []⟩  -- CARD_STATUS
  , ⟨0x9, 1, 0, 0x0, 0x0, 0x0, 0x0, []⟩  -- CARD_GEN
  , ⟨0xA, 1, 0, 0x0, 0x0, 0x0, 0x0, []⟩  -- CARD_BAD
  , ⟨0xB, 1, 0, 0x0, 0x0, 0x0, 0x7, [⟨1, 2, [(0, 1)]⟩]⟩  -- CARD_CTRL
  , ⟨0xC, 1, 0, 0x0, 0x0, 0x0, 0x0, []⟩  -- CARD_WEAR
  , ⟨0xC0, 1, 0, 0x0, 0x0, 0x0, 0x0, []⟩  -- REJECT_ADDR
  , ⟨0xC1, 1, 0, 0x0, 0x0, 0x7F, 0x0, []⟩  -- REJECT_INFO
  , ⟨0xC2, 1, 0, 0x0, 0x0, 0x0, 0x0, []⟩  -- ARB_SEQ
  , ⟨0xC4, 4, 1, 0xFFFFFFFF, 0x0, 0x0, 0x0, []⟩  -- SCRATCH
  ]

/-- Registers of block QUAD. -/
def quadQuadRows : List RegRow :=
  [ ⟨0x0, 1, 0, 0x0, 0x0, 0x0, 0x0, []⟩  -- HK_VHUB
  , ⟨0x1, 1, 0, 0x0, 0x0, 0xFF, 0x0, []⟩  -- HK_STATUS
  ]

/-- Registers of block ENGINES. -/
def enginesRows : List RegRow :=
  [ ⟨0x9000, 1, 0, 0x103, 0x0, 0x0, 0x30, []⟩  -- ENG_CTRL
  , ⟨0x9001, 1, 0, 0x0, 0x0, 0x0, 0x0, []⟩  -- ENG_STATUS
  , ⟨0x9002, 1, 0, 0xFFFF, 0x0, 0x0, 0x0, [⟨8, 8, [(1, 100)]⟩, ⟨0, 8, [(1, 100)]⟩]⟩  -- SUP_WDT
  , ⟨0x9003, 1, 0, 0x0, 0x0, 0x0, 0xFF, [⟨0, 8, [(90, 90)]⟩]⟩  -- WDT_KICK
  , ⟨0x9004, 1, 0, 0xFFFFFFFF, 0x0, 0x0, 0x0, []⟩  -- SUPB_ENTRY
  , ⟨0x9005, 1, 0, 0x3F, 0x0, 0x0, 0x0, [⟨0, 6, [(1, 60)]⟩]⟩  -- FLASK_CFG
  , ⟨0x9008, 1, 0, 0xFFFF, 0x0, 0x0, 0x0, []⟩  -- PE_RUN
  , ⟨0x9009, 1, 0, 0x0, 0x0, 0x0, 0x0, []⟩  -- PE_STATUS
  , ⟨0x900A, 1, 0, 0x0, 0x0, 0x0, 0x0, []⟩  -- PE_CAUSE0
  , ⟨0x900B, 1, 0, 0x0, 0x0, 0x0, 0x0, []⟩  -- PE_CAUSE1
  , ⟨0x900C, 1, 0, 0xFFFF, 0x0, 0x0, 0x0, [⟨8, 8, [(4, 255)]⟩, ⟨0, 8, [(5, 255)]⟩]⟩  -- PE_CFG
  , ⟨0x9010, 1, 0, 0x0, 0x0, 0xFFFFFFFF, 0x0, []⟩  -- ECC_SRAM_CNT
  , ⟨0x9011, 1, 0, 0x0, 0x0, 0xFFFFFFFF, 0x0, []⟩  -- ECC_FLASH_CNT
  , ⟨0x9012, 1, 0, 0x0, 0x0, 0x0, 0x0, []⟩  -- ECC_ADDR
  , ⟨0x9013, 1, 0, 0x0, 0x0, 0x0, 0x0, []⟩  -- ECC_INFO
  , ⟨0x9014, 1, 0, 0x1, 0x0, 0x0, 0x0, []⟩  -- SCRUB_CTRL
  , ⟨0x9015, 1, 0, 0x0, 0x0, 0x0, 0x0, []⟩  -- SCRUB_POS
  , ⟨0x9016, 1, 0, 0x0, 0x0, 0x0, 0xFFFFFFF8, []⟩  -- MEM_ZERO
  ]

/-- Registers of block FAULT. -/
def faultRows : List RegRow :=
  [ ⟨0x3000, 1, 0, 0x0, 0xFFFFFFFF, 0x0, 0x0, []⟩  -- FAULT_STATUS_LO
  , ⟨0x3001, 1, 0, 0x0, 0xFFFFFFFF, 0x0, 0x0, []⟩  -- FAULT_STATUS_HI
  , ⟨0x3002, 1, 0, 0x0, 0xFFFFFFFF, 0x0, 0x0, []⟩  -- FAULT_NEW_LO
  , ⟨0x3003, 1, 0, 0x0, 0xFFFFFFFF, 0x0, 0x0, []⟩  -- FAULT_NEW_HI
  , ⟨0x3004, 1, 0, 0x0, 0x0, 0x0, 0xFFFFFFFF, []⟩  -- FAULT_FORCE_LO
  , ⟨0x3005, 1, 0, 0x0, 0x0, 0x0, 0xFFFFFFFF, []⟩  -- FAULT_FORCE_HI
  , ⟨0x3008, 4, 1, 0xFFFFFFFF, 0x0, 0x0, 0x0, []⟩  -- FAULT_SEV
  , ⟨0x300C, 1, 0, 0x3, 0x0, 0x0, 0x0, []⟩  -- FAULT_PIN
  , ⟨0x300D, 1, 0, 0x0, 0x0, 0xFFFF, 0x0, []⟩  -- CLEAR_REFUSED
  , ⟨0x3010, 1, 0, 0x0, 0x0, 0x0, 0x0, []⟩  -- CAP_INFO
  , ⟨0x3011, 1, 0, 0x0, 0x0, 0x0, 0x0, []⟩  -- CAP_ADDR
  , ⟨0x3012, 1, 0, 0x0, 0x0, 0x0, 0x0, []⟩  -- CAP_CYCLE
  , ⟨0x3013, 1, 0, 0x0, 0x0, 0x0, 0x0, []⟩  -- CAP_SEQ
  , ⟨0x3014, 1, 0, 0x0, 0x0, 0x0, 0x0, []⟩  -- CAP_ANGLE
  ]

/-- Registers of block LOGBOOK. -/
def logbookRows : List RegRow :=
  [ ⟨0xA000, 1, 0, 0x0, 0x0, 0x0, 0x0, []⟩  -- LOG_HEADER
  , ⟨0xA001, 1, 0, 0x0, 0x0, 0xFFFF, 0x0, []⟩  -- LOG_LOST
  , ⟨0xA002, 1, 0, 0xF, 0x0, 0x0, 0x0, []⟩  -- LOG_CTRL
  , ⟨0xA003, 1, 0, 0xFFFE, 0x0, 0x0, 0x0, []⟩  -- LOG_EN
  , ⟨0xA00C, 1, 0, 0x0, 0x0, 0x0, 0x1FFFFF, []⟩  -- LOG_WRITE
  , ⟨0xA00D, 1, 0, 0x0, 0x0, 0xFF000000, 0x0, []⟩  -- LOG_RING
  ]

/-- Registers of block LOGBOOK, per-master copies. -/
def masterLogbookRows : List RegRow :=
  [ ⟨0xA004, 1, 0, 0x0, 0x0, 0x0, 0x0, []⟩  -- LOG_POP
  , ⟨0xA008, 4, 1, 0x0, 0x0, 0x0, 0x0, []⟩  -- LOG_ENTRY
  ]

/-- Registers of block CHECK. -/
def checkRows : List RegRow :=
  [ ⟨0x4000, 2, 64, 0xF9, 0x0, 0x0, 0x6, []⟩  -- CHK_CTRL
  , ⟨0x4001, 2, 64, 0x33F, 0x0, 0x0, 0x0, [⟨0, 6, [(3, 32)]⟩]⟩  -- CHK_CFG
  , ⟨0x4002, 2, 64, 0xFFFFFFFF, 0x0, 0x0, 0x0, []⟩  -- CHK_POLY
  , ⟨0x4003, 2, 64, 0xFFFFFFFF, 0x0, 0x0, 0x0, []⟩  -- CHK_INIT
  , ⟨0x4004, 2, 64, 0xFFFFFFFF, 0x0, 0x0, 0x0, []⟩  -- CHK_XOROUT
  , ⟨0x4005, 2, 64, 0xFFFFFFFF, 0x0, 0x0, 0x0, []⟩  -- CHK_START
  , ⟨0x4006, 2, 64, 0xFFFFFFFF, 0x0, 0x0, 0x0, [⟨0, 32, [(1, 16777216)]⟩]⟩  -- CHK_LEN
  , ⟨0x4008, 2, 64, 0xFFFFFFFF, 0x0, 0x0, 0x0, []⟩  -- CHK_EXPECT
  , ⟨0x4007, 2, 64, 0x1FFFCFFF, 0x0, 0x0, 0x0, [⟨16, 13, [(2, 4096)]⟩, ⟨14, 2, [(0, 2)]⟩]⟩  -- CHK_ALIVE
  , ⟨0x4009, 2, 64, 0x0, 0x0, 0x0, 0x0, []⟩  -- CHK_RESULT
  , ⟨0x400B, 2, 64, 0x0, 0x0, 0x0, 0x0, []⟩  -- CHK_DONE_LEN
  , ⟨0x400F, 2, 64, 0x0, 0x0, 0x0, 0x0, []⟩  -- CHK_ERR_ADDR
  , ⟨0x400A, 2, 64, 0x0, 0xF4, 0x0, 0x0, []⟩  -- CHK_STATUS
  , ⟨0x400C, 2, 64, 0x0, 0x0, 0x0, 0x0, []⟩  -- CHK_ALIVE_ERR
  , ⟨0x400D, 2, 64, 0x0, 0x0, 0x0, 0xFFFFFFFF, []⟩  -- CHK_FEED
  , ⟨0x400E, 2, 64, 0x0, 0x0, 0x0, 0xFF, []⟩  -- CHK_FEED_B
  ]

/-- Registers of block HOSTBUS. -/
def hostbusRows : List RegRow :=
  [ ⟨0x5000, 1, 0, 0xFF006F, 0x0, 0x0, 0x0, [⟨16, 8, [(10, 255)]⟩]⟩  -- HOST_CFG
  , ⟨0x5001, 1, 0, 0x0, 0xFE, 0x0, 0x0, []⟩  -- HOST_STATUS
  , ⟨0x5002, 1, 0, 0x0, 0x0, 0xFFFFFFFF, 0x0, []⟩  -- HOST_CNT
  , ⟨0x5003, 1, 0, 0x0, 0x0, 0x0, 0x0, []⟩  -- HOST_PTR
  ]

/-- Registers of block CONVOY. -/
def convoyRows : List RegRow :=
  [ ⟨0x6000, 1, 0, 0x10F, 0x0, 0x0, 0x0, []⟩  -- CONV_LINK
  , ⟨0x6001, 1, 0, 0x0, 0xFE, 0x0, 0x0, []⟩  -- CONV_STATUS
  , ⟨0x6002, 1, 0, 0x0, 0x0, 0x0, 0x0, []⟩  -- CONV_ARB
  , ⟨0x6003, 1, 0, 0x0, 0x0, 0xFFFFFFFF, 0x0, []⟩  -- CONV_CNT1
  , ⟨0x6004, 1, 0, 0x0, 0x0, 0xFFFFFFFF, 0x0, []⟩  -- CONV_CNT2
  , ⟨0x6008, 1, 0, 0x0, 0x0, 0x0, 0x0, []⟩  -- CONV_RACK
  , ⟨0x6009, 1, 0, 0x0, 0x0, 0x0, 0x0, []⟩  -- CONV_ROUND
  , ⟨0x600A, 1, 0, 0xFFFFFF, 0x0, 0x0, 0x0, [⟨0, 24, [(1, 16777215)]⟩]⟩  -- RACK_BUDGET
  , ⟨0x600B, 1, 0, 0xFF, 0x0, 0x0, 0x0, [⟨0, 8, [(4, 64)]⟩]⟩  -- CONV_CFG
  , ⟨0x600C, 1, 0, 0x0, 0x0, 0x0, 0x0, []⟩  -- CONV_SERIAL
  , ⟨0x6010, 16, 1, 0x0, 0x0, 0x0, 0x0, []⟩  -- CONV_TABLE
  , ⟨0x6020, 8, 1, 0xFFFFFFFF, 0x0, 0x0, 0x0, []⟩  -- CONV_TX
  , ⟨0x6030, 8, 1, 0x0, 0x0, 0x0, 0x0, []⟩  -- CONV_RX
  , ⟨0x6028, 1, 0, 0xFFF83F, 0x0, 0x0, 0x80000000, [⟨16, 8, [(32, 63)]⟩, ⟨0, 6, [(3, 32)]⟩]⟩  -- CONV_TXCTRL
  , ⟨0x6038, 1, 0, 0x0, 0x80000000, 0x0, 0x0, []⟩  -- CONV_RXSTAT
  ]

/-- Registers of block DENOC. -/
def denocRows : List RegRow :=
  [ ⟨0x7000, 1, 0, 0x0, 0x0, 0x0, 0x0, []⟩  -- DENOC_STATUS
  , ⟨0x7001, 1, 0, 0x0, 0x0, 0xFFFFFFFF, 0x0, []⟩  -- DENOC_CNT
  ]

/-- Registers of block FLASHCTL. -/
def flashctlRows : List RegRow :=
  [ ⟨0x8000, 1, 0, 0x0, 0x0, 0x0, 0x0, []⟩  -- FW_SLOTS
  , ⟨0x8001, 1, 0, 0x0, 0x0, 0x0, 0x0, []⟩  -- FW_VER_A
  , ⟨0x8002, 1, 0, 0x0, 0x0, 0x0, 0x0, []⟩  -- FW_VER_B
  , ⟨0x8003, 1, 0, 0xFFFFFFFF, 0x0, 0x0, 0x0, []⟩  -- FW_ACT_CYCLE
  , ⟨0x8004, 1, 0, 0xFFFF, 0x0, 0x0, 0xC0000000, []⟩  -- FW_ACT_CTRL
  , ⟨0x8005, 1, 0, 0x0, 0x0, 0x0, 0x3, []⟩  -- FW_CTRL
  , ⟨0x8006, 1, 0, 0x0, 0x0, 0x0, 0x0, []⟩  -- FW_STATUS
  , ⟨0x8008, 1, 0, 0xFFFFFFFF, 0x0, 0x0, 0x0, []⟩  -- FLASH_ADDR
  , ⟨0x8009, 1, 0, 0xFFFFFFFF, 0x0, 0x0, 0x0, []⟩  -- FLASH_DATA_LO
  , ⟨0x800A, 1, 0, 0xFFFFFFFF, 0x0, 0x0, 0x0, []⟩  -- FLASH_DATA_HI
  , ⟨0x800B, 1, 0, 0x0, 0x0, 0x0, 0x3, [⟨0, 2, [(0, 2)]⟩]⟩  -- FLASH_CMD
  ]

/-- Registers of block CLAIM. -/
def claimClaimRows : List RegRow :=
  [ ⟨0x0, 1, 0, 0x0, 0x0, 0x0, 0xFE00FFFF, [⟨29, 3, [(0, 5)]⟩, ⟨25, 2, [(0, 2)]⟩, ⟨0, 16, [(0, 2400)]⟩]⟩  -- PE_CLAIM
  , ⟨0x1, 1, 0, 0x0, 0x0, 0x0, 0x0, []⟩  -- PE_ANSWER
  , ⟨0x2, 1, 0, 0x0, 0x0, 0x0, 0xC0000000, [⟨30, 2, [(0, 2)]⟩]⟩  -- PE_HANDOVER
  , ⟨0x3, 1, 0, 0x0, 0x3F, 0x0, 0x0, []⟩  -- PE_EVENT
  , ⟨0x4, 1, 0, 0x0, 0x0, 0x0, 0x0, []⟩  -- PE_STAMP
  , ⟨0x5, 1, 0, 0x0, 0x0, 0x0, 0x0, []⟩  -- PE_RX_HEAD
  , ⟨0x6, 1, 0, 0x0, 0x0, 0x0, 0x1, []⟩  -- PE_RX_ACK
  , ⟨0x7, 1, 0, 0x0, 0x0, 0x0, 0xF, [⟨0, 3, [(0, 3)]⟩]⟩  -- PE_TX
  , ⟨0x8, 1, 0, 0x0, 0x0, 0x0, 0xFFFFFFFF, []⟩  -- PE_ADOPT
  , ⟨0x3F, 1, 0, 0x0, 0x0, 0x0, 0xFF, [⟨0, 8, [(90, 90)]⟩]⟩  -- PE_KICK
  ]

/-- Every register that exists once. -/
def hubRows : List RegRow :=
  sundialRows ++ hamperRows ++ sysRows ++ enginesRows ++ faultRows ++ logbookRows ++ checkRows ++ hostbusRows ++ convoyRows ++ denocRows ++ flashctlRows

/-- Every register that exists once per master. -/
def masterRows : List RegRow :=
  masterSelectRows ++ masterSundialRows ++ masterHamperRows ++ masterLogbookRows

/-- Reset words that are not 0. -/
def hubResets : List (Nat × Nat) :=
  [(0x4, 0x3C07),
   (0x80, 0x2),
   (0x81, 0x5C40),
   (0x82, 0x3E805C8),
   (0x1001, 0x82),
   (0x1005, 0x1388),
   (0x1006, 0x1388),
   (0x1007, 0x38),
   (0x1008, 0x20000),
   (0x2000, 0xFC),
   (0x2003, 0xFFFFFF),
   (0x200C, 0xFFFF),
   (0x200D, 0xFFFF),
   (0x200E, 0xFFFF),
   (0x200F, 0xFFFF),
   (0x2014, 0x2580096),
   (0x2015, 0x14300018),
   (0x2016, 0x8000002),
   (0x2017, 0x40000A3C),
   (0x3008, 0xAAAAAAAA),
   (0x3009, 0x54055544),
   (0x300A, 0xF75D0151),
   (0x300B, 0x555155),
   (0x300C, 0x2),
   (0x4000, 0x40),
   (0x4001, 0x20),
   (0x4002, 0x4C11DB7),
   (0x4003, 0xFFFFFFFF),
   (0x4004, 0xFFFFFFFF),
   (0x4007, 0x100000),
   (0x4040, 0x40),
   (0x4041, 0x20),
   (0x4042, 0x4C11DB7),
   (0x4043, 0xFFFFFFFF),
   (0x4044, 0xFFFFFFFF),
   (0x4047, 0x100000),
   (0x5000, 0x640041),
   (0x6000, 0x1),
   (0x600A, 0xFFFFFF),
   (0x600B, 0x10),
   (0x6028, 0x200003),
   (0x8008, 0x8000000),
   (0x8009, 0xFFFFFFFF),
   (0x800A, 0xFFFFFFFF),
   (0x9000, 0x101),
   (0x9001, 0x1),
   (0x9002, 0xA0A),
   (0x9004, 0x20000000),
   (0x9005, 0x5),
   (0x9009, 0xFFFF),
   (0x900C, 0x4032),
   (0x9014, 0x1),
   (0x9015, 0x20000000),
   (0xA002, 0x6),
   (0xA003, 0x83FF)]

/-- Reset words that are not 0. -/
def portResets : List (Nat × Nat) :=
  [(0x0, 0x68),
   (0x1, 0x1104),
   (0x2, 0x324B0F96),
   (0x3, 0x41145064),
   (0x5, 0x1201),
   (0x10, 0x407D),
   (0x18, 0x7F),
   (0x19, 0xFF00FFFF),
   (0x1D, 0x46231B),
   (0x24, 0xF900),
   (0x26, 0xFF000000),
   (0x28, 0x3C7990),
   (0x29, 0x100),
   (0x2B, 0xFFFF0000),
   (0x2C, 0x640032),
   (0x2D, 0x5A191130),
   (0x2E, 0x55001E28),
   (0x2F, 0xC00000),
   (0x31, 0x80000000),
   (0x32, 0x15720114),
   (0x33, 0x17A002F8),
   (0x34, 0x15720114),
   (0x35, 0xBD0017C),
   (0x36, 0xAB9008A),
   (0x37, 0xBD0017C),
   (0x38, 0x43),
   (0x3A, 0x3E80EA6),
   (0x3B, 0x909),
   (0x3C, 0x780E00),
   (0x3F, 0x1F4)]

/-- Reset words that are not 0. -/
def quadResets : List (Nat × Nat) :=
  []

end Sys2Proof.Machine
end

