-- ==== Sys2Proof/Machine/Sparse.lean ====
section
/-! DEFINITION. Sparse maps in one canonical form: keys strictly rising, and no entry equal to what an unlisted key
reads as. Memory and the register file are such maps. -/

namespace Sys2Proof.Machine

variable {α : Type}

/-- What key `k` reads as, `d` being what an unlisted key reads as. -/
def sparseGet (d : Nat → α) : List (Nat × α) → Nat → α
  | [], k => d k
  | (j, v) :: l, k => if k = j then v else sparseGet d l k

/-- Insert or replace an entry that differs from the default, keeping the keys rising. -/
def sparsePut : List (Nat × α) → Nat → α → List (Nat × α)
  | [], k, v => [(k, v)]
  | (j, w) :: l, k, v =>
    if k = j then (k, v) :: l else if k < j then (k, v) :: (j, w) :: l else (j, w) :: sparsePut l k v

/-- Remove the entry of a key. -/
def sparseDrop (l : List (Nat × α)) (k : Nat) : List (Nat × α) := l.filter fun e => e.1 != k

/-- Write `v` at key `k`. -/
def sparseSet [DecidableEq α] (d : Nat → α) (l : List (Nat × α)) (k : Nat) (v : α) : List (Nat × α) :=
  if v = d k then sparseDrop l k else sparsePut l k v

/-- Every key lies above `b`, keys rise strictly, and no entry equals the default. -/
def sparseAbove [DecidableEq α] (d : Nat → α) : Option Nat → List (Nat × α) → Bool
  | _, [] => true
  | b, (j, v) :: l => (match b with | none => true | some i => i < j) && decide (v ≠ d j) && sparseAbove d (some j) l

/-- The canonical form. -/
def sparseWf [DecidableEq α] (d : Nat → α) (l : List (Nat × α)) : Bool := sparseAbove d none l

end Sys2Proof.Machine
end

