-- ==== Sys2Proof/Machine/Fields.lean ====
section
/-! DEFINITION. The fields of the hub's registers, as the field tables of spec/ give them: each one names its word
(the offset of the register in its block or window, in words, as R578 numbers them), its lowest bit and its width.
The name is the register's and the field's of spec/. Generated from the tables; the meanings cite the rules. -/

namespace Sys2Proof.Machine

/-- A bit field of a 32-bit word: the word's key, the lowest bit, the width. -/
structure Bits where
  key : Nat
  lo : Nat
  width : Nat
  deriving DecidableEq, Repr

/-- A field of a register that exists once (blocks SYS to LOGBOOK). -/
structure GField where
  bits : Bits
  deriving DecidableEq, Repr

/-- A field of the PORT window, once per port. -/
structure PField where
  bits : Bits
  deriving DecidableEq, Repr

/-- A field of the QUAD window, once per quad. -/
structure QField where
  bits : Bits
  deriving DecidableEq, Repr

/-- A field of the claim interface, once per port engine. -/
structure CField where
  bits : Bits
  deriving DecidableEq, Repr

/-- A field of a register that exists once per master (R42, R88, R477, R227). -/
structure MField where
  bits : Bits
  deriving DecidableEq, Repr

end Sys2Proof.Machine

namespace Sys2Proof.Reg

open Sys2Proof.Machine

def PORT_SEL.port : MField := ⟨⟨0xF000, 0, 4⟩⟩
def QUAD_SEL.quad : MField := ⟨⟨0xF001, 0, 2⟩⟩
def SEL_VIEW.dbg_quad : MField := ⟨⟨0xF004, 28, 2⟩⟩
def SEL_VIEW.dbg_port : MField := ⟨⟨0xF004, 24, 4⟩⟩
def SEL_VIEW.denoc_quad : MField := ⟨⟨0xF004, 22, 2⟩⟩
def SEL_VIEW.denoc_port : MField := ⟨⟨0xF004, 18, 4⟩⟩
def SEL_VIEW.host_quad : MField := ⟨⟨0xF004, 16, 2⟩⟩
def SEL_VIEW.host_port : MField := ⟨⟨0xF004, 12, 4⟩⟩
def SEL_VIEW.supb_quad : MField := ⟨⟨0xF004, 10, 2⟩⟩
def SEL_VIEW.supb_port : MField := ⟨⟨0xF004, 6, 4⟩⟩
def SEL_VIEW.supa_quad : MField := ⟨⟨0xF004, 4, 2⟩⟩
def SEL_VIEW.supa_port : MField := ⟨⟨0xF004, 0, 4⟩⟩
def SUN_CFG.acz_wired : GField := ⟨⟨0x1000, 3, 1⟩⟩
def SUN_CFG.sync_drive : GField := ⟨⟨0x1000, 2, 1⟩⟩
def SUN_CFG.card_source : GField := ⟨⟨0x1000, 0, 2⟩⟩
def SUN_STATUS.pre_ready : GField := ⟨⟨0x1001, 7, 1⟩⟩
def SUN_STATUS.slewing : GField := ⟨⟨0x1001, 6, 1⟩⟩
def SUN_STATUS.mains_lost : GField := ⟨⟨0x1001, 5, 1⟩⟩
def SUN_STATUS.unlocked : GField := ⟨⟨0x1001, 4, 1⟩⟩
def SUN_STATUS.holdover : GField := ⟨⟨0x1001, 3, 1⟩⟩
def SUN_STATUS.locked : GField := ⟨⟨0x1001, 2, 1⟩⟩
def SUN_STATUS.active : GField := ⟨⟨0x1001, 0, 2⟩⟩
def SUN_NOW.cycle_lo : GField := ⟨⟨0x1002, 16, 16⟩⟩
def SUN_NOW.angle : GField := ⟨⟨0x1002, 0, 16⟩⟩
def SUN_CYCLE.cycle : GField := ⟨⟨0x1003, 0, 32⟩⟩
def SUN_SNAP.angle : MField := ⟨⟨0x1004, 0, 16⟩⟩
def SUN_FREQ.freq : GField := ⟨⟨0x1005, 0, 16⟩⟩
def SUN_FREE_FREQ.free_freq : GField := ⟨⟨0x1006, 0, 16⟩⟩
def SUN_LOSS.lost_halves : GField := ⟨⟨0x1007, 4, 5⟩⟩
def SUN_LOSS.hold_cycles : GField := ⟨⟨0x1007, 0, 4⟩⟩
def SUN_ACZ.acz_filter : GField := ⟨⟨0x1008, 16, 4⟩⟩
def SUN_ACZ.acz_offset : GField := ⟨⟨0x1008, 0, 16⟩⟩
def SUN_COUNT.epoch : GField := ⟨⟨0x1009, 16, 16⟩⟩
def SUN_COUNT.reject : GField := ⟨⟨0x1009, 0, 16⟩⟩
def SLOT_REQ_CYCLE.cycle : MField := ⟨⟨0x1010, 0, 32⟩⟩
def SLOT_REQ.irq_en : MField := ⟨⟨0x1011, 16, 1⟩⟩
def SLOT_REQ.angle : MField := ⟨⟨0x1011, 0, 16⟩⟩
def SLOT_CANCEL.slot : GField := ⟨⟨0x1012, 0, 5⟩⟩
def SLOT_RESULT.slot : MField := ⟨⟨0x1013, 8, 5⟩⟩
def SLOT_RESULT.status : MField := ⟨⟨0x1013, 0, 3⟩⟩
def SLOT_BUSY.busy : GField := ⟨⟨0x1014, 0, 32⟩⟩
def SLOT_FIRED.fired : GField := ⟨⟨0x1015, 5, 27⟩⟩
def SLOT_LATE.late : GField := ⟨⟨0x1016, 5, 27⟩⟩
def SLOT_TGT_CYCLE.cycle (n : Nat) : GField := ⟨⟨0x1040 + 2 * n, 0, 32⟩⟩
def SLOT_TGT_ANGLE.angle (n : Nat) : GField := ⟨⟨0x1041 + 2 * n, 0, 16⟩⟩
def PORT_CTRL.recover : PField := ⟨⟨0x0, 7, 1⟩⟩
def PORT_CTRL.try_src : PField := ⟨⟨0x0, 6, 1⟩⟩
def PORT_CTRL.role : PField := ⟨⟨0x0, 4, 2⟩⟩
def PORT_CTRL.rp_level : PField := ⟨⟨0x0, 2, 2⟩⟩
def PORT_CTRL.enable : PField := ⟨⟨0x0, 0, 1⟩⟩
def PORT_STATUS.tc_state : PField := ⟨⟨0x1, 12, 4⟩⟩
def PORT_STATUS.run : PField := ⟨⟨0x1, 10, 2⟩⟩
def PORT_STATUS.orient : PField := ⟨⟨0x1, 9, 1⟩⟩
def PORT_STATUS.dead_batt : PField := ⟨⟨0x1, 8, 1⟩⟩
def PORT_STATUS.partner_rp : PField := ⟨⟨0x1, 6, 2⟩⟩
def PORT_STATUS.ra_seen : PField := ⟨⟨0x1, 5, 1⟩⟩
def PORT_STATUS.held : PField := ⟨⟨0x1, 4, 1⟩⟩
def PORT_STATUS.vsafe5 : PField := ⟨⟨0x1, 3, 1⟩⟩
def PORT_STATUS.vsafe0 : PField := ⟨⟨0x1, 2, 1⟩⟩
def TC_TIMER1.drp_duty : PField := ⟨⟨0x2, 24, 8⟩⟩
def TC_TIMER1.drp_period : PField := ⟨⟨0x2, 16, 8⟩⟩
def TC_TIMER1.pd_debounce : PField := ⟨⟨0x2, 8, 8⟩⟩
def TC_TIMER1.cc_debounce : PField := ⟨⟨0x2, 0, 8⟩⟩
def TC_TIMER2.discharge_limit : PField := ⟨⟨0x3, 24, 8⟩⟩
def TC_TIMER2.rest : PField := ⟨⟨0x3, 16, 8⟩⟩
def TC_TIMER2.try_timeout : PField := ⟨⟨0x3, 8, 8⟩⟩
def TC_TIMER2.drp_try : PField := ⟨⟨0x3, 0, 8⟩⟩
def CC_VOLT.cc_b : PField := ⟨⟨0x4, 16, 16⟩⟩
def CC_VOLT.cc_a : PField := ⟨⟨0x4, 0, 16⟩⟩
def VCONN_CTRL.vconn_ilim : PField := ⟨⟨0x5, 8, 8⟩⟩
def VCONN_CTRL.vconn_lane : PField := ⟨⟨0x5, 2, 1⟩⟩
def VCONN_CTRL.vconn_on : PField := ⟨⟨0x5, 1, 1⟩⟩
def VCONN_CTRL.vconn_allow : PField := ⟨⟨0x5, 0, 1⟩⟩
def BC12_CTRL.short_on : PField := ⟨⟨0x6, 8, 1⟩⟩
def BC12_CTRL.mode : PField := ⟨⟨0x6, 0, 2⟩⟩
def ATTACH_CNT.detach : PField := ⟨⟨0x7, 16, 16⟩⟩
def ATTACH_CNT.attach : PField := ⟨⟨0x7, 0, 16⟩⟩
def PD_CTRL.hr_storm_max : PField := ⟨⟨0x10, 12, 4⟩⟩
def PD_CTRL.alert_en : PField := ⟨⟨0x10, 6, 1⟩⟩
def PD_CTRL.batt_poll : PField := ⟨⟨0x10, 5, 1⟩⟩
def PD_CTRL.id_discover : PField := ⟨⟨0x10, 4, 1⟩⟩
def PD_CTRL.spec_enable : PField := ⟨⟨0x10, 3, 1⟩⟩
def PD_CTRL.epr_allow : PField := ⟨⟨0x10, 2, 1⟩⟩
def PD_CTRL.pd_enable : PField := ⟨⟨0x10, 0, 1⟩⟩
def PD_STATUS.ams : PField := ⟨⟨0x11, 24, 4⟩⟩
def PD_STATUS.partner_rev : PField := ⟨⟨0x11, 22, 2⟩⟩
def PD_STATUS.pd_silent : PField := ⟨⟨0x11, 21, 1⟩⟩
def PD_STATUS.epr_mode : PField := ⟨⟨0x11, 20, 1⟩⟩
def PD_STATUS.cable_epr : PField := ⟨⟨0x11, 19, 1⟩⟩
def PD_STATUS.cable_5a : PField := ⟨⟨0x11, 18, 1⟩⟩
def PD_STATUS.cable_valid : PField := ⟨⟨0x11, 17, 1⟩⟩
def PD_STATUS.sink_tx_ng : PField := ⟨⟨0x11, 16, 1⟩⟩
def PD_STATUS.spec : PField := ⟨⟨0x11, 14, 2⟩⟩
def PD_STATUS.contract : PField := ⟨⟨0x11, 12, 2⟩⟩
def PD_STATUS.power_role : PField := ⟨⟨0x11, 11, 1⟩⟩
def PD_STATUS.data_role : PField := ⟨⟨0x11, 10, 1⟩⟩
def PD_STATUS.in_transition : PField := ⟨⟨0x11, 9, 1⟩⟩
def PD_STATUS.wait_held : PField := ⟨⟨0x11, 8, 1⟩⟩
def CONTRACT_RDO.rdo : PField := ⟨⟨0x12, 0, 32⟩⟩
def CONTRACT_PDO.pdo : PField := ⟨⟨0x13, 0, 32⟩⟩
def CONTRACT_VI.volt : PField := ⟨⟨0x14, 16, 16⟩⟩
def CONTRACT_VI.curr : PField := ⟨⟨0x14, 0, 16⟩⟩
def CONTRACT_PWR.cap_mismatch : PField := ⟨⟨0x15, 22, 1⟩⟩
def CONTRACT_PWR.kind : PField := ⟨⟨0x15, 20, 2⟩⟩
def CONTRACT_PWR.obj_pos : PField := ⟨⟨0x15, 16, 4⟩⟩
def CONTRACT_PWR.power : PField := ⟨⟨0x15, 0, 16⟩⟩
def CAPS_INFO.offer : PField := ⟨⟨0x16, 16, 16⟩⟩
def CAPS_INFO.caps_gen : PField := ⟨⟨0x16, 8, 8⟩⟩
def CAPS_INFO.epr_count : PField := ⟨⟨0x16, 4, 4⟩⟩
def CAPS_INFO.spr_count : PField := ⟨⟨0x16, 0, 4⟩⟩
def CABLE_ID.vid : PField := ⟨⟨0x17, 16, 16⟩⟩
def CABLE_ID.active : PField := ⟨⟨0x17, 6, 1⟩⟩
def CABLE_ID.epr : PField := ⟨⟨0x17, 5, 1⟩⟩
def CABLE_ID.max_v : PField := ⟨⟨0x17, 3, 2⟩⟩
def CABLE_ID.max_i : PField := ⟨⟨0x17, 1, 2⟩⟩
def CABLE_ID.valid : PField := ⟨⟨0x17, 0, 1⟩⟩
def PARTNER_INFO.vid : PField := ⟨⟨0x18, 16, 16⟩⟩
def PARTNER_INFO.batteries : PField := ⟨⟨0x18, 15, 1⟩⟩
def PARTNER_INFO.epr_sink : PField := ⟨⟨0x18, 14, 1⟩⟩
def PARTNER_INFO.unconstrained : PField := ⟨⟨0x18, 13, 1⟩⟩
def PARTNER_INFO.frs_current : PField := ⟨⟨0x18, 11, 2⟩⟩
def PARTNER_INFO.tool : PField := ⟨⟨0x18, 10, 1⟩⟩
def PARTNER_INFO.profile : PField := ⟨⟨0x18, 0, 7⟩⟩
def BATT_STATUS.age : PField := ⟨⟨0x19, 24, 8⟩⟩
def BATT_STATUS.valid : PField := ⟨⟨0x19, 18, 1⟩⟩
def BATT_STATUS.charge : PField := ⟨⟨0x19, 16, 2⟩⟩
def BATT_STATUS.capacity : PField := ⟨⟨0x19, 0, 16⟩⟩
def PD_CNT1.rx_crc_err : PField := ⟨⟨0x1A, 16, 16⟩⟩
def PD_CNT1.rx_good : PField := ⟨⟨0x1A, 0, 16⟩⟩
def PD_CNT2.hard_reset_rx : PField := ⟨⟨0x1B, 24, 8⟩⟩
def PD_CNT2.hard_reset_tx : PField := ⟨⟨0x1B, 16, 8⟩⟩
def PD_CNT2.soft_reset : PField := ⟨⟨0x1B, 8, 8⟩⟩
def PD_CNT2.tx_fail : PField := ⟨⟨0x1B, 0, 8⟩⟩
def PD_CNT3.rx_overrun : PField := ⟨⟨0x1C, 24, 8⟩⟩
def PD_CNT3.rx_ignored : PField := ⟨⟨0x1C, 16, 8⟩⟩
def PD_CNT3.not_supported_tx : PField := ⟨⟨0x1C, 8, 8⟩⟩
def PD_CNT3.wait_tx : PField := ⟨⟨0x1C, 0, 8⟩⟩
def PD_TIMER.src_recover : PField := ⟨⟨0x1D, 16, 8⟩⟩
def PD_TIMER.src_trans_max : PField := ⟨⟨0x1D, 8, 8⟩⟩
def PD_TIMER.sender_response : PField := ⟨⟨0x1D, 0, 8⟩⟩
def PD_EVENT.partner_alert : PField := ⟨⟨0x1E, 10, 1⟩⟩
def PD_EVENT.batt_update : PField := ⟨⟨0x1E, 9, 1⟩⟩
def PD_EVENT.partner_id : PField := ⟨⟨0x1E, 8, 1⟩⟩
def PD_EVENT.cable_found : PField := ⟨⟨0x1E, 7, 1⟩⟩
def PD_EVENT.detach_in_transition : PField := ⟨⟨0x1E, 6, 1⟩⟩
def PD_EVENT.soft_reset : PField := ⟨⟨0x1E, 5, 1⟩⟩
def PD_EVENT.hard_reset : PField := ⟨⟨0x1E, 4, 1⟩⟩
def PD_EVENT.epr_exited : PField := ⟨⟨0x1E, 3, 1⟩⟩
def PD_EVENT.epr_entered : PField := ⟨⟨0x1E, 2, 1⟩⟩
def PD_EVENT.contract_lost : PField := ⟨⟨0x1E, 1, 1⟩⟩
def PD_EVENT.contract_new : PField := ⟨⟨0x1E, 0, 1⟩⟩
def HAMPER_CTRL.irq_audit : GField := ⟨⟨0x2000, 7, 1⟩⟩
def HAMPER_CTRL.irq_full : GField := ⟨⟨0x2000, 6, 1⟩⟩
def HAMPER_CTRL.burst_detect : GField := ⟨⟨0x2000, 5, 1⟩⟩
def HAMPER_CTRL.preempt : GField := ⟨⟨0x2000, 4, 1⟩⟩
def HAMPER_CTRL.tool_first : GField := ⟨⟨0x2000, 3, 1⟩⟩
def HAMPER_CTRL.fair_share : GField := ⟨⟨0x2000, 2, 1⟩⟩
def HAMPER_STATUS.full : GField := ⟨⟨0x2001, 31, 1⟩⟩
def HAMPER_STATUS.cut_active : GField := ⟨⟨0x2001, 30, 1⟩⟩
def HAMPER_STATUS.live : GField := ⟨⟨0x2001, 23, 7⟩⟩
def HAMPER_STATUS.waiting : GField := ⟨⟨0x2001, 16, 7⟩⟩
def HAMPER_STATUS.full_mask : GField := ⟨⟨0x2001, 0, 16⟩⟩
def HUB_CAP.hub_cap : GField := ⟨⟨0x2002, 0, 24⟩⟩
def HUB_DERATE.derate : GField := ⟨⟨0x2003, 0, 24⟩⟩
def RACK_SHARE.valid : GField := ⟨⟨0x2004, 24, 1⟩⟩
def RACK_SHARE.share : GField := ⟨⟨0x2004, 0, 24⟩⟩
def HUB_LIMIT.limit : GField := ⟨⟨0x2005, 0, 24⟩⟩
def HUB_COMMITTED.total : GField := ⟨⟨0x2006, 0, 24⟩⟩
def HUB_TENTATIVE.total : GField := ⟨⟨0x2007, 0, 24⟩⟩
def HUB_STANDBY.total : GField := ⟨⟨0x2008, 0, 24⟩⟩
def HUB_OVERCUT.total : GField := ⟨⟨0x2009, 0, 24⟩⟩
def QUAD_DERATE.derate (n : Nat) : GField := ⟨⟨0x200C + 1 * n, 0, 16⟩⟩
def QUAD_TOTAL.tentative (n : Nat) : GField := ⟨⟨0x2010 + 1 * n, 16, 16⟩⟩
def QUAD_TOTAL.committed (n : Nat) : GField := ⟨⟨0x2010 + 1 * n, 0, 16⟩⟩
def HAMPER_POLICY.forecast : GField := ⟨⟨0x2014, 16, 16⟩⟩
def HAMPER_POLICY.guarantee : GField := ⟨⟨0x2014, 0, 16⟩⟩
def CLASS_CFG.burst_step : GField := ⟨⟨0x2015, 24, 8⟩⟩
def CLASS_CFG.burst_count : GField := ⟨⟨0x2015, 20, 4⟩⟩
def CLASS_CFG.default_class : GField := ⟨⟨0x2015, 4, 2⟩⟩
def CLASS_CFG.pack_class : GField := ⟨⟨0x2015, 2, 2⟩⟩
def CLASS_CFG.tool_class : GField := ⟨⟨0x2015, 0, 2⟩⟩
def RAMP_CFG.ramp_angle : GField := ⟨⟨0x2016, 16, 16⟩⟩
def RAMP_CFG.per_half : GField := ⟨⟨0x2016, 0, 3⟩⟩
def AUDIT_CFG.audit_angle : GField := ⟨⟨0x2017, 16, 16⟩⟩
def AUDIT_CFG.cut_limit : GField := ⟨⟨0x2017, 8, 8⟩⟩
def AUDIT_CFG.prompt_hold : GField := ⟨⟨0x2017, 0, 8⟩⟩
def HAMPER_VETO.go : GField := ⟨⟨0x2018, 4, 1⟩⟩
def HAMPER_VETO.port : GField := ⟨⟨0x2018, 0, 4⟩⟩
def AUX_CLAIM.release : GField := ⟨⟨0x2019, 31, 1⟩⟩
def AUX_CLAIM.entry : GField := ⟨⟨0x2019, 16, 6⟩⟩
def AUX_CLAIM.power : GField := ⟨⟨0x2019, 0, 16⟩⟩
def AUX_RESULT.entry : MField := ⟨⟨0x201A, 16, 6⟩⟩
def AUX_RESULT.lost_entry : MField := ⟨⟨0x201A, 8, 6⟩⟩
def AUX_RESULT.aux_lost : MField := ⟨⟨0x201A, 2, 1⟩⟩
def AUX_RESULT.status : MField := ⟨⟨0x201A, 0, 2⟩⟩
def AUDIT_CAPTURE.valid : GField := ⟨⟨0x201B, 31, 1⟩⟩
def AUDIT_CAPTURE.node : GField := ⟨⟨0x201B, 16, 5⟩⟩
def AUDIT_CAPTURE.check : GField := ⟨⟨0x201B, 0, 2⟩⟩
def AUDIT_STORED.value : GField := ⟨⟨0x201C, 0, 24⟩⟩
def AUDIT_FOUND.value : GField := ⟨⟨0x201D, 0, 24⟩⟩
def HAMPER_CNT1.grants : GField := ⟨⟨0x201E, 16, 16⟩⟩
def HAMPER_CNT1.waits : GField := ⟨⟨0x201E, 0, 16⟩⟩
def HAMPER_CNT2.rollbacks : GField := ⟨⟨0x201F, 16, 16⟩⟩
def HAMPER_CNT2.overrides : GField := ⟨⟨0x201F, 8, 8⟩⟩
def HAMPER_CNT2.full : GField := ⟨⟨0x201F, 0, 8⟩⟩
def PORT_LEDGER.offer : PField := ⟨⟨0x20, 16, 16⟩⟩
def PORT_LEDGER.port_cap : PField := ⟨⟨0x20, 0, 16⟩⟩
def PORT_HELD.pending : PField := ⟨⟨0x21, 16, 16⟩⟩
def PORT_HELD.committed : PField := ⟨⟨0x21, 0, 16⟩⟩
def PORT_HSTATE.class_ : PField := ⟨⟨0x22, 22, 2⟩⟩
def PORT_HSTATE.tool : PField := ⟨⟨0x22, 21, 1⟩⟩
def PORT_HSTATE.over_cut : PField := ⟨⟨0x22, 20, 1⟩⟩
def PORT_HSTATE.trimmed : PField := ⟨⟨0x22, 19, 1⟩⟩
def PORT_HSTATE.prompted : PField := ⟨⟨0x22, 18, 1⟩⟩
def PORT_HSTATE.ramp : PField := ⟨⟨0x22, 16, 2⟩⟩
def PORT_HSTATE.shadow : PField := ⟨⟨0x22, 0, 16⟩⟩
def PORT_RAMP.cycle_lo : PField := ⟨⟨0x23, 16, 16⟩⟩
def PORT_RAMP.angle : PField := ⟨⟨0x23, 0, 16⟩⟩
def SWAP_CTRL.frs_req : PField := ⟨⟨0x24, 14, 2⟩⟩
def SWAP_CTRL.frs_sink_en : PField := ⟨⟨0x24, 13, 1⟩⟩
def SWAP_CTRL.biv_eligible : PField := ⟨⟨0x24, 12, 1⟩⟩
def SWAP_CTRL.vconn_policy : PField := ⟨⟨0x24, 10, 2⟩⟩
def SWAP_CTRL.dr_policy : PField := ⟨⟨0x24, 8, 2⟩⟩
def SWAP_CTRL.pr_policy : PField := ⟨⟨0x24, 6, 2⟩⟩
def SWAP_CTRL.swap_go : PField := ⟨⟨0x24, 0, 4⟩⟩
def SWAP_STATUS.last : PField := ⟨⟨0x25, 12, 4⟩⟩
def SWAP_STATUS.result : PField := ⟨⟨0x25, 8, 4⟩⟩
def SWAP_STATUS.busy : PField := ⟨⟨0x25, 7, 1⟩⟩
def SWAP_STATUS.frs_armed : PField := ⟨⟨0x25, 6, 1⟩⟩
def SWAP_STATUS.feeding : PField := ⟨⟨0x25, 5, 1⟩⟩
def SWAP_STATUS.shed : PField := ⟨⟨0x25, 4, 1⟩⟩
def BIV_PORT.rank : PField := ⟨⟨0x26, 24, 8⟩⟩
def BIV_PORT.eligible : PField := ⟨⟨0x26, 23, 1⟩⟩
def BIV_PORT.src_caps_valid : PField := ⟨⟨0x26, 22, 1⟩⟩
def BIV_PORT.src_pdp : PField := ⟨⟨0x26, 0, 16⟩⟩
def SWAP_CNT.pr : PField := ⟨⟨0x27, 24, 8⟩⟩
def SWAP_CNT.dr : PField := ⟨⟨0x27, 16, 8⟩⟩
def SWAP_CNT.vconn : PField := ⟨⟨0x27, 8, 8⟩⟩
def SWAP_CNT.collisions : PField := ⟨⟨0x27, 0, 8⟩⟩
def BIVOUAC_CTRL.exit : GField := ⟨⟨0x80, 3, 1⟩⟩
def BIVOUAC_CTRL.force : GField := ⟨⟨0x80, 2, 1⟩⟩
def BIVOUAC_CTRL.exit_auto : GField := ⟨⟨0x80, 1, 1⟩⟩
def BIVOUAC_CTRL.bivouac_en : GField := ⟨⟨0x80, 0, 1⟩⟩
def BIVOUAC_CFG.vhub_island : GField := ⟨⟨0x81, 16, 16⟩⟩
def BIVOUAC_CFG.island_eff : GField := ⟨⟨0x81, 8, 8⟩⟩
def BIVOUAC_CFG.island_max : GField := ⟨⟨0x81, 4, 4⟩⟩
def BIVOUAC_CFG2.pack_cap : GField := ⟨⟨0x82, 16, 16⟩⟩
def BIVOUAC_CFG2.return_delay : GField := ⟨⟨0x82, 8, 8⟩⟩
def BIVOUAC_CFG2.island_volt : GField := ⟨⟨0x82, 0, 8⟩⟩
def BIVOUAC_STATUS.phase : GField := ⟨⟨0x83, 30, 2⟩⟩
def BIVOUAC_STATUS.cause_vhub : GField := ⟨⟨0x83, 29, 1⟩⟩
def BIVOUAC_STATUS.cause_mains : GField := ⟨⟨0x83, 28, 1⟩⟩
def BIVOUAC_STATUS.no_pack : GField := ⟨⟨0x83, 27, 1⟩⟩
def BIVOUAC_STATUS.feeding : GField := ⟨⟨0x83, 20, 4⟩⟩
def BIVOUAC_STATUS.feed_mask : GField := ⟨⟨0x83, 0, 16⟩⟩
def ISLAND_BUDGET.budget : GField := ⟨⟨0x84, 0, 24⟩⟩
def SHED_MASK.shed : GField := ⟨⟨0x85, 0, 16⟩⟩
def STAGE_CFG.topology : PField := ⟨⟨0x28, 25, 2⟩⟩
def STAGE_CFG.ntc_fitted : PField := ⟨⟨0x28, 24, 1⟩⟩
def STAGE_CFG.dead_b : PField := ⟨⟨0x28, 17, 7⟩⟩
def STAGE_CFG.dead_a : PField := ⟨⟨0x28, 10, 7⟩⟩
def STAGE_CFG.fsw : PField := ⟨⟨0x28, 0, 10⟩⟩
def STAGE_CTRL.force_set : PField := ⟨⟨0x29, 10, 2⟩⟩
def STAGE_CTRL.dis_test : PField := ⟨⟨0x29, 9, 1⟩⟩
def STAGE_CTRL.drop_comp : PField := ⟨⟨0x29, 8, 1⟩⟩
def STAGE_CTRL.cl_kind : PField := ⟨⟨0x29, 4, 2⟩⟩
def STAGE_CTRL.frs_arm : PField := ⟨⟨0x29, 3, 1⟩⟩
def STAGE_CTRL.mode : PField := ⟨⟨0x29, 0, 2⟩⟩
def STAGE_VSET.vnow : PField := ⟨⟨0x2A, 16, 16⟩⟩
def STAGE_VSET.vset : PField := ⟨⟨0x2A, 0, 16⟩⟩
def STAGE_ILIM.ilim_trim : PField := ⟨⟨0x2B, 16, 16⟩⟩
def STAGE_ILIM.ilim_set : PField := ⟨⟨0x2B, 0, 16⟩⟩
def STAGE_SLEW.slew_down : PField := ⟨⟨0x2C, 16, 12⟩⟩
def STAGE_SLEW.slew_up : PField := ⟨⟨0x2C, 0, 12⟩⟩
def STAGE_REV.rev_vmin : PField := ⟨⟨0x2D, 24, 8⟩⟩
def STAGE_REV.droop : PField := ⟨⟨0x2D, 16, 8⟩⟩
def STAGE_REV.vhub_rev : PField := ⟨⟨0x2D, 0, 16⟩⟩
def STAGE_PROT.ot_limit : PField := ⟨⟨0x2E, 24, 8⟩⟩
def STAGE_PROT.uvp_margin : PField := ⟨⟨0x2E, 8, 8⟩⟩
def STAGE_PROT.ovp_margin : PField := ⟨⟨0x2E, 0, 8⟩⟩
def STAGE_STATUS.state : PField := ⟨⟨0x2F, 24, 4⟩⟩
def STAGE_STATUS.set : PField := ⟨⟨0x2F, 22, 2⟩⟩
def STAGE_STATUS.vset_pending : PField := ⟨⟨0x2F, 21, 1⟩⟩
def STAGE_STATUS.ilim_pending : PField := ⟨⟨0x2F, 20, 1⟩⟩
def STAGE_STATUS.node_ready : PField := ⟨⟨0x2F, 19, 1⟩⟩
def STAGE_STATUS.sat : PField := ⟨⟨0x2F, 18, 1⟩⟩
def STAGE_STATUS.dis_on : PField := ⟨⟨0x2F, 17, 1⟩⟩
def STAGE_STATUS.fsw_pending : PField := ⟨⟨0x2F, 16, 1⟩⟩
def STAGE_STATUS.duty_a : PField := ⟨⟨0x2F, 8, 8⟩⟩
def STAGE_STATUS.duty_b : PField := ⟨⟨0x2F, 0, 8⟩⟩
def STAGE_TELEM1.vnode : PField := ⟨⟨0x30, 16, 16⟩⟩
def STAGE_TELEM1.vbus : PField := ⟨⟨0x30, 0, 16⟩⟩
def STAGE_TELEM2.temp : PField := ⟨⟨0x31, 16, 16⟩⟩
def STAGE_TELEM2.iout : PField := ⟨⟨0x31, 0, 16⟩⟩
def COEF_V.kv_p (n : Nat) : PField := ⟨⟨0x32 + 2 * n, 16, 16⟩⟩
def COEF_V.kv_i (n : Nat) : PField := ⟨⟨0x32 + 2 * n, 0, 16⟩⟩
def COEF_I.ki_p (n : Nat) : PField := ⟨⟨0x33 + 2 * n, 16, 16⟩⟩
def COEF_I.ki_i (n : Nat) : PField := ⟨⟨0x33 + 2 * n, 0, 16⟩⟩
def HK_VHUB.vhub_avg : QField := ⟨⟨0x0, 16, 16⟩⟩
def HK_VHUB.vhub : QField := ⟨⟨0x0, 0, 16⟩⟩
def HK_STATUS.ref_bad : QField := ⟨⟨0x1, 8, 1⟩⟩
def HK_STATUS.ref_fails : QField := ⟨⟨0x1, 0, 8⟩⟩
def PASS_CTRL.leak_go : PField := ⟨⟨0x38, 7, 1⟩⟩
def PASS_CTRL.leak_auto : PField := ⟨⟨0x38, 6, 1⟩⟩
def PASS_CTRL.auto_limit : PField := ⟨⟨0x38, 1, 1⟩⟩
def PASS_CTRL.pass_en : PField := ⟨⟨0x38, 0, 1⟩⟩
def PASS_STATUS.leak_result : PField := ⟨⟨0x39, 9, 3⟩⟩
def PASS_STATUS.window : PField := ⟨⟨0x39, 8, 1⟩⟩
def PASS_STATUS.latched : PField := ⟨⟨0x39, 7, 1⟩⟩
def PASS_STATUS.trip_cause : PField := ⟨⟨0x39, 4, 3⟩⟩
def PASS_STATUS.cmd_on : PField := ⟨⟨0x39, 3, 1⟩⟩
def PASS_STATUS.state : PField := ⟨⟨0x39, 0, 3⟩⟩
def PASS_LIMIT.limit_eff : PField := ⟨⟨0x3A, 16, 16⟩⟩
def PASS_LIMIT.limit : PField := ⟨⟨0x3A, 0, 16⟩⟩
def PASS_INRUSH.inrush_time : PField := ⟨⟨0x3B, 8, 6⟩⟩
def PASS_INRUSH.gate_i : PField := ⟨⟨0x3B, 0, 4⟩⟩
def PASS_SOA.soa_budget : PField := ⟨⟨0x3C, 16, 10⟩⟩
def PASS_SOA.leak_shift : PField := ⟨⟨0x3C, 8, 5⟩⟩
def PASS_SOA.node_cap : PField := ⟨⟨0x3C, 0, 8⟩⟩
def PASS_MEAS.vds : PField := ⟨⟨0x3D, 16, 16⟩⟩
def PASS_MEAS.vgs : PField := ⟨⟨0x3D, 0, 16⟩⟩
def PASS_ENERGY.peak : PField := ⟨⟨0x3E, 16, 16⟩⟩
def PASS_ENERGY.energy : PField := ⟨⟨0x3E, 0, 16⟩⟩
def LEAK_CFG.leak_v : PField := ⟨⟨0x3F, 0, 16⟩⟩
def PORT_FAULT.hr_storm : PField := ⟨⟨0x40, 10, 1⟩⟩
def PORT_FAULT.loop_sat : PField := ⟨⟨0x40, 9, 1⟩⟩
def PORT_FAULT.vconn_oc : PField := ⟨⟨0x40, 8, 1⟩⟩
def PORT_FAULT.cc_ov : PField := ⟨⟨0x40, 7, 1⟩⟩
def PORT_FAULT.over_temp : PField := ⟨⟨0x40, 6, 1⟩⟩
def PORT_FAULT.leaky_pass : PField := ⟨⟨0x40, 5, 1⟩⟩
def PORT_FAULT.gate_stuck : PField := ⟨⟨0x40, 4, 1⟩⟩
def PORT_FAULT.soa_trip : PField := ⟨⟨0x40, 3, 1⟩⟩
def PORT_FAULT.ocp_trip : PField := ⟨⟨0x40, 2, 1⟩⟩
def PORT_FAULT.uvp : PField := ⟨⟨0x40, 1, 1⟩⟩
def PORT_FAULT.ovp : PField := ⟨⟨0x40, 0, 1⟩⟩
def SYS_STATUS.last_step : GField := ⟨⟨0x0, 16, 4⟩⟩
def SYS_STATUS.sun_timeout : GField := ⟨⟨0x0, 15, 1⟩⟩
def SYS_STATUS.trim_bad : GField := ⟨⟨0x0, 14, 1⟩⟩
def SYS_STATUS.warm : GField := ⟨⟨0x0, 13, 1⟩⟩
def SYS_STATUS.slot : GField := ⟨⟨0x0, 12, 1⟩⟩
def SYS_STATUS.slot_fallback : GField := ⟨⟨0x0, 11, 1⟩⟩
def SYS_STATUS.card_default : GField := ⟨⟨0x0, 10, 1⟩⟩
def SYS_STATUS.card_copy : GField := ⟨⟨0x0, 9, 1⟩⟩
def SYS_STATUS.card_fallback : GField := ⟨⟨0x0, 8, 1⟩⟩
def SYS_STATUS.card_worn : GField := ⟨⟨0x0, 7, 1⟩⟩
def SYS_STATUS.basecamp : GField := ⟨⟨0x0, 1, 1⟩⟩
def SYS_STATUS.ready : GField := ⟨⟨0x0, 0, 1⟩⟩
def START_TIME.ready_time : GField := ⟨⟨0x1, 16, 16⟩⟩
def START_TIME.image_time : GField := ⟨⟨0x1, 0, 16⟩⟩
def CAL_STATUS.hk_fail : GField := ⟨⟨0x2, 16, 4⟩⟩
def CAL_STATUS.port_fail : GField := ⟨⟨0x2, 0, 16⟩⟩
def SYS_MODE.key : GField := ⟨⟨0x3, 8, 8⟩⟩
def SYS_MODE.watch_auto : GField := ⟨⟨0x3, 4, 1⟩⟩
def SYS_MODE.mode_result : GField := ⟨⟨0x3, 2, 2⟩⟩
def SYS_MODE.ship_go : GField := ⟨⟨0x3, 1, 1⟩⟩
def SYS_MODE.watch_go : GField := ⟨⟨0x3, 0, 1⟩⟩
def WAKE_CFG.watch_idle : GField := ⟨⟨0x4, 8, 8⟩⟩
def WAKE_CFG.wake_waken : GField := ⟨⟨0x4, 2, 1⟩⟩
def WAKE_CFG.wake_acz : GField := ⟨⟨0x4, 1, 1⟩⟩
def WAKE_CFG.wake_vbus : GField := ⟨⟨0x4, 0, 1⟩⟩
def WAKE_CAUSE.vbus_mask : GField := ⟨⟨0x5, 16, 16⟩⟩
def WAKE_CAUSE.cold : GField := ⟨⟨0x5, 3, 1⟩⟩
def WAKE_CAUSE.waken : GField := ⟨⟨0x5, 2, 1⟩⟩
def WAKE_CAUSE.acz : GField := ⟨⟨0x5, 1, 1⟩⟩
def WAKE_CAUSE.vbus : GField := ⟨⟨0x5, 0, 1⟩⟩
def CARD_STATUS.erase_result : GField := ⟨⟨0x8, 16, 2⟩⟩
def CARD_STATUS.erase_busy : GField := ⟨⟨0x8, 15, 1⟩⟩
def CARD_STATUS.worn_b : GField := ⟨⟨0x8, 14, 1⟩⟩
def CARD_STATUS.worn_a : GField := ⟨⟨0x8, 13, 1⟩⟩
def CARD_STATUS.valid_b : GField := ⟨⟨0x8, 12, 1⟩⟩
def CARD_STATUS.valid_a : GField := ⟨⟨0x8, 11, 1⟩⟩
def CARD_STATUS.cause_b : GField := ⟨⟨0x8, 8, 3⟩⟩
def CARD_STATUS.cause_a : GField := ⟨⟨0x8, 5, 3⟩⟩
def CARD_GEN.gen_b : GField := ⟨⟨0x9, 16, 16⟩⟩
def CARD_GEN.gen_a : GField := ⟨⟨0x9, 0, 16⟩⟩
def CARD_BAD.bad_b : GField := ⟨⟨0xA, 16, 16⟩⟩
def CARD_BAD.bad_a : GField := ⟨⟨0xA, 0, 16⟩⟩
def CARD_CTRL.copy : GField := ⟨⟨0xB, 1, 2⟩⟩
def CARD_CTRL.erase_go : GField := ⟨⟨0xB, 0, 1⟩⟩
def CARD_WEAR.erases_b : GField := ⟨⟨0xC, 16, 16⟩⟩
def CARD_WEAR.erases_a : GField := ⟨⟨0xC, 0, 16⟩⟩
def ENG_CTRL.flask_restart : GField := ⟨⟨0x9000, 8, 1⟩⟩
def ENG_CTRL.restart_b : GField := ⟨⟨0x9000, 5, 1⟩⟩
def ENG_CTRL.restart_a : GField := ⟨⟨0x9000, 4, 1⟩⟩
def ENG_CTRL.run_b : GField := ⟨⟨0x9000, 1, 1⟩⟩
def ENG_CTRL.run_a : GField := ⟨⟨0x9000, 0, 1⟩⟩
def ENG_STATUS.flask_restarted : GField := ⟨⟨0x9001, 18, 1⟩⟩
def ENG_STATUS.flask_expired : GField := ⟨⟨0x9001, 17, 1⟩⟩
def ENG_STATUS.flask : GField := ⟨⟨0x9001, 16, 1⟩⟩
def ENG_STATUS.primary : GField := ⟨⟨0x9001, 11, 1⟩⟩
def ENG_STATUS.state_b : GField := ⟨⟨0x9001, 8, 3⟩⟩
def ENG_STATUS.state_a : GField := ⟨⟨0x9001, 0, 3⟩⟩
def SUP_WDT.period_b : GField := ⟨⟨0x9002, 8, 8⟩⟩
def SUP_WDT.period_a : GField := ⟨⟨0x9002, 0, 8⟩⟩
def WDT_KICK.key : GField := ⟨⟨0x9003, 0, 8⟩⟩
def SUPB_ENTRY.entry : GField := ⟨⟨0x9004, 0, 32⟩⟩
def FLASK_CFG.elapsed : GField := ⟨⟨0x9005, 16, 16⟩⟩
def FLASK_CFG.flask_limit : GField := ⟨⟨0x9005, 0, 6⟩⟩
def PE_RUN.run : GField := ⟨⟨0x9008, 0, 16⟩⟩
def PE_STATUS.halting : GField := ⟨⟨0x9009, 16, 16⟩⟩
def PE_STATUS.halted : GField := ⟨⟨0x9009, 0, 16⟩⟩
def PE_CAUSE0.cause : GField := ⟨⟨0x900A, 0, 32⟩⟩
def PE_CAUSE1.cause : GField := ⟨⟨0x900B, 0, 32⟩⟩
def PE_CFG.storm_max : GField := ⟨⟨0x900C, 8, 8⟩⟩
def PE_CFG.pe_wdt : GField := ⟨⟨0x900C, 0, 8⟩⟩
def ECC_SRAM_CNT.corrected : GField := ⟨⟨0x9010, 16, 16⟩⟩
def ECC_SRAM_CNT.uncorrectable : GField := ⟨⟨0x9010, 0, 16⟩⟩
def ECC_FLASH_CNT.corrected : GField := ⟨⟨0x9011, 16, 16⟩⟩
def ECC_FLASH_CNT.uncorrectable : GField := ⟨⟨0x9011, 0, 16⟩⟩
def ECC_ADDR.addr : GField := ⟨⟨0x9012, 0, 32⟩⟩
def ECC_INFO.master : GField := ⟨⟨0x9013, 24, 5⟩⟩
def ECC_INFO.kind : GField := ⟨⟨0x9013, 16, 2⟩⟩
def SCRUB_CTRL.busy : GField := ⟨⟨0x9014, 1, 1⟩⟩
def SCRUB_CTRL.enable : GField := ⟨⟨0x9014, 0, 1⟩⟩
def SCRUB_POS.next : GField := ⟨⟨0x9015, 0, 32⟩⟩
def MEM_ZERO.addr : GField := ⟨⟨0x9016, 3, 29⟩⟩
def FAULT_STATUS_LO.status : GField := ⟨⟨0x3000, 0, 32⟩⟩
def FAULT_STATUS_HI.status : GField := ⟨⟨0x3001, 0, 32⟩⟩
def FAULT_NEW_LO.new : GField := ⟨⟨0x3002, 0, 32⟩⟩
def FAULT_NEW_HI.new : GField := ⟨⟨0x3003, 0, 32⟩⟩
def FAULT_FORCE_LO.force : GField := ⟨⟨0x3004, 0, 32⟩⟩
def FAULT_FORCE_HI.force : GField := ⟨⟨0x3005, 0, 32⟩⟩
def FAULT_PIN.pin_low : GField := ⟨⟨0x300C, 8, 1⟩⟩
def FAULT_PIN.fault_pin_level : GField := ⟨⟨0x300C, 0, 2⟩⟩
def CLEAR_REFUSED.last_source : GField := ⟨⟨0x300D, 24, 6⟩⟩
def CLEAR_REFUSED.count : GField := ⟨⟨0x300D, 0, 16⟩⟩
def CAP_INFO.valid : GField := ⟨⟨0x3010, 31, 1⟩⟩
def CAP_INFO.source : GField := ⟨⟨0x3010, 24, 6⟩⟩
def CAP_INFO.master : GField := ⟨⟨0x3010, 16, 5⟩⟩
def CAP_INFO.access : GField := ⟨⟨0x3010, 8, 3⟩⟩
def CAP_INFO.later : GField := ⟨⟨0x3010, 0, 8⟩⟩
def CAP_ADDR.addr : GField := ⟨⟨0x3011, 0, 32⟩⟩
def CAP_CYCLE.cycle : GField := ⟨⟨0x3012, 0, 32⟩⟩
def CAP_SEQ.seq : GField := ⟨⟨0x3013, 0, 32⟩⟩
def CAP_ANGLE.angle : GField := ⟨⟨0x3014, 0, 16⟩⟩
def LOG_HEADER.epoch : GField := ⟨⟨0xA000, 16, 16⟩⟩
def LOG_HEADER.held : GField := ⟨⟨0xA000, 0, 9⟩⟩
def LOG_LOST.lost : GField := ⟨⟨0xA001, 0, 16⟩⟩
def LOG_CTRL.overrun_latch : GField := ⟨⟨0xA002, 3, 1⟩⟩
def LOG_CTRL.persist_en : GField := ⟨⟨0xA002, 2, 1⟩⟩
def LOG_CTRL.persist_level : GField := ⟨⟨0xA002, 0, 2⟩⟩
def LOG_EN.group : GField := ⟨⟨0xA003, 1, 15⟩⟩
def LOG_EN.group0 : GField := ⟨⟨0xA003, 0, 1⟩⟩
def LOG_POP.valid : MField := ⟨⟨0xA004, 31, 1⟩⟩
def LOG_POP.cont : MField := ⟨⟨0xA004, 30, 1⟩⟩
def LOG_POP.left : MField := ⟨⟨0xA004, 0, 9⟩⟩
def LOG_ENTRY.word (n : Nat) : MField := ⟨⟨0xA008 + 1 * n, 0, 32⟩⟩
def LOG_WRITE.num : GField := ⟨⟨0xA00C, 16, 5⟩⟩
def LOG_WRITE.data : GField := ⟨⟨0xA00C, 0, 16⟩⟩
def LOG_RING.dropped : GField := ⟨⟨0xA00D, 24, 8⟩⟩
def LOG_RING.erasing : GField := ⟨⟨0xA00D, 23, 1⟩⟩
def LOG_RING.queued : GField := ⟨⟨0xA00D, 16, 5⟩⟩
def LOG_RING.head : GField := ⟨⟨0xA00D, 0, 10⟩⟩
def CHK_CTRL.mode (n : Nat) : GField := ⟨⟨0x4000 + 64 * n, 7, 1⟩⟩
def CHK_CTRL.latch_en (n : Nat) : GField := ⟨⟨0x4000 + 64 * n, 6, 1⟩⟩
def CHK_CTRL.alive_en (n : Nat) : GField := ⟨⟨0x4000 + 64 * n, 5, 1⟩⟩
def CHK_CTRL.cmp_en (n : Nat) : GField := ⟨⟨0x4000 + 64 * n, 4, 1⟩⟩
def CHK_CTRL.irq_en (n : Nat) : GField := ⟨⟨0x4000 + 64 * n, 3, 1⟩⟩
def CHK_CTRL.end_ (n : Nat) : GField := ⟨⟨0x4000 + 64 * n, 2, 1⟩⟩
def CHK_CTRL.go (n : Nat) : GField := ⟨⟨0x4000 + 64 * n, 1, 1⟩⟩
def CHK_CTRL.enable (n : Nat) : GField := ⟨⟨0x4000 + 64 * n, 0, 1⟩⟩
def CHK_CFG.refout (n : Nat) : GField := ⟨⟨0x4001 + 64 * n, 9, 1⟩⟩
def CHK_CFG.refin (n : Nat) : GField := ⟨⟨0x4001 + 64 * n, 8, 1⟩⟩
def CHK_CFG.width (n : Nat) : GField := ⟨⟨0x4001 + 64 * n, 0, 6⟩⟩
def CHK_POLY.poly (n : Nat) : GField := ⟨⟨0x4002 + 64 * n, 0, 32⟩⟩
def CHK_INIT.init_ (n : Nat) : GField := ⟨⟨0x4003 + 64 * n, 0, 32⟩⟩
def CHK_XOROUT.xorout (n : Nat) : GField := ⟨⟨0x4004 + 64 * n, 0, 32⟩⟩
def CHK_START.start (n : Nat) : GField := ⟨⟨0x4005 + 64 * n, 0, 32⟩⟩
def CHK_LEN.len (n : Nat) : GField := ⟨⟨0x4006 + 64 * n, 0, 32⟩⟩
def CHK_EXPECT.expect (n : Nat) : GField := ⟨⟨0x4008 + 64 * n, 0, 32⟩⟩
def CHK_ALIVE.stride (n : Nat) : GField := ⟨⟨0x4007 + 64 * n, 16, 13⟩⟩
def CHK_ALIVE.alive_size (n : Nat) : GField := ⟨⟨0x4007 + 64 * n, 14, 2⟩⟩
def CHK_ALIVE.offset (n : Nat) : GField := ⟨⟨0x4007 + 64 * n, 0, 12⟩⟩
def CHK_RESULT.result (n : Nat) : GField := ⟨⟨0x4009 + 64 * n, 0, 32⟩⟩
def CHK_DONE_LEN.done_len (n : Nat) : GField := ⟨⟨0x400B + 64 * n, 0, 32⟩⟩
def CHK_ERR_ADDR.addr (n : Nat) : GField := ⟨⟨0x400F + 64 * n, 0, 32⟩⟩
def CHK_STATUS.owner (n : Nat) : GField := ⟨⟨0x400A + 64 * n, 8, 2⟩⟩
def CHK_STATUS.poison (n : Nat) : GField := ⟨⟨0x400A + 64 * n, 7, 1⟩⟩
def CHK_STATUS.skip (n : Nat) : GField := ⟨⟨0x400A + 64 * n, 6, 1⟩⟩
def CHK_STATUS.repeat_ (n : Nat) : GField := ⟨⟨0x400A + 64 * n, 5, 1⟩⟩
def CHK_STATUS.mismatch (n : Nat) : GField := ⟨⟨0x400A + 64 * n, 4, 1⟩⟩
def CHK_STATUS.partial_ (n : Nat) : GField := ⟨⟨0x400A + 64 * n, 3, 1⟩⟩
def CHK_STATUS.done (n : Nat) : GField := ⟨⟨0x400A + 64 * n, 2, 1⟩⟩
def CHK_STATUS.draining (n : Nat) : GField := ⟨⟨0x400A + 64 * n, 1, 1⟩⟩
def CHK_STATUS.busy (n : Nat) : GField := ⟨⟨0x400A + 64 * n, 0, 1⟩⟩
def CHK_ALIVE_ERR.count (n : Nat) : GField := ⟨⟨0x400C + 64 * n, 24, 8⟩⟩
def CHK_ALIVE_ERR.first (n : Nat) : GField := ⟨⟨0x400C + 64 * n, 0, 24⟩⟩
def CHK_FEED.data (n : Nat) : GField := ⟨⟨0x400D + 64 * n, 0, 32⟩⟩
def CHK_FEED_B.data (n : Nat) : GField := ⟨⟨0x400E + 64 * n, 0, 8⟩⟩
def HOST_CFG.whistle_gap : GField := ⟨⟨0x5000, 16, 8⟩⟩
def HOST_CFG.addr : GField := ⟨⟨0x5000, 8, 7⟩⟩
def HOST_CFG.whistle_en : GField := ⟨⟨0x5000, 6, 1⟩⟩
def HOST_CFG.pec_required : GField := ⟨⟨0x5000, 5, 1⟩⟩
def HOST_CFG.filt : GField := ⟨⟨0x5000, 0, 4⟩⟩
def HOST_STATUS.asleep : GField := ⟨⟨0x5001, 11, 1⟩⟩
def HOST_STATUS.busy : GField := ⟨⟨0x5001, 10, 1⟩⟩
def HOST_STATUS.whistle_pending : GField := ⟨⟨0x5001, 9, 1⟩⟩
def HOST_STATUS.wake_nack : GField := ⟨⟨0x5001, 7, 1⟩⟩
def HOST_STATUS.cmd_nack : GField := ⟨⟨0x5001, 6, 1⟩⟩
def HOST_STATUS.count_err : GField := ⟨⟨0x5001, 5, 1⟩⟩
def HOST_STATUS.pec_missing : GField := ⟨⟨0x5001, 4, 1⟩⟩
def HOST_STATUS.pec_err : GField := ⟨⟨0x5001, 3, 1⟩⟩
def HOST_STATUS.timeout_data : GField := ⟨⟨0x5001, 2, 1⟩⟩
def HOST_STATUS.timeout_clk : GField := ⟨⟨0x5001, 1, 1⟩⟩
def HOST_CNT.transactions : GField := ⟨⟨0x5002, 16, 16⟩⟩
def HOST_CNT.pec_errors : GField := ⟨⟨0x5002, 8, 8⟩⟩
def HOST_CNT.whistles : GField := ⟨⟨0x5002, 0, 8⟩⟩
def HOST_PTR.page : GField := ⟨⟨0x5003, 24, 8⟩⟩
def HOST_PTR.last_cmd : GField := ⟨⟨0x5003, 16, 8⟩⟩
def HOST_PTR.index : GField := ⟨⟨0x5003, 0, 16⟩⟩
def CONV_LINK.addr : GField := ⟨⟨0x6000, 16, 7⟩⟩
def CONV_LINK.draining : GField := ⟨⟨0x6000, 9, 1⟩⟩
def CONV_LINK.link_en : GField := ⟨⟨0x6000, 8, 1⟩⟩
def CONV_LINK.filt : GField := ⟨⟨0x6000, 0, 4⟩⟩
def CONV_STATUS.bus_free : GField := ⟨⟨0x6001, 11, 1⟩⟩
def CONV_STATUS.ctrl_busy : GField := ⟨⟨0x6001, 10, 1⟩⟩
def CONV_STATUS.bus_stuck : GField := ⟨⟨0x6001, 9, 1⟩⟩
def CONV_STATUS.pec_err : GField := ⟨⟨0x6001, 7, 1⟩⟩
def CONV_STATUS.rx_busy : GField := ⟨⟨0x6001, 6, 1⟩⟩
def CONV_STATUS.nack : GField := ⟨⟨0x6001, 5, 1⟩⟩
def CONV_STATUS.timeout : GField := ⟨⟨0x6001, 4, 1⟩⟩
def CONV_STATUS.bus_cleared : GField := ⟨⟨0x6001, 3, 1⟩⟩
def CONV_STATUS.arb_stop_loss : GField := ⟨⟨0x6001, 2, 1⟩⟩
def CONV_STATUS.arb_lost : GField := ⟨⟨0x6001, 1, 1⟩⟩
def CONV_ARB.stop : GField := ⟨⟨0x6002, 16, 1⟩⟩
def CONV_ARB.byte : GField := ⟨⟨0x6002, 8, 8⟩⟩
def CONV_ARB.bit : GField := ⟨⟨0x6002, 0, 3⟩⟩
def CONV_CNT1.tx_frames : GField := ⟨⟨0x6003, 16, 16⟩⟩
def CONV_CNT1.rx_frames : GField := ⟨⟨0x6003, 0, 16⟩⟩
def CONV_CNT2.arb_losses : GField := ⟨⟨0x6004, 24, 8⟩⟩
def CONV_CNT2.dropped : GField := ⟨⟨0x6004, 16, 8⟩⟩
def CONV_CNT2.rx_discarded : GField := ⟨⟨0x6004, 8, 8⟩⟩
def CONV_CNT2.clears : GField := ⟨⟨0x6004, 0, 8⟩⟩
def CONV_RACK.members : GField := ⟨⟨0x6008, 24, 5⟩⟩
def CONV_RACK.missed : GField := ⟨⟨0x6008, 16, 8⟩⟩
def CONV_RACK.leader : GField := ⟨⟨0x6008, 12, 4⟩⟩
def CONV_RACK.reason : GField := ⟨⟨0x6008, 4, 3⟩⟩
def CONV_RACK.may_lead : GField := ⟨⟨0x6008, 3, 1⟩⟩
def CONV_RACK.role : GField := ⟨⟨0x6008, 0, 3⟩⟩
def CONV_ROUND.round : GField := ⟨⟨0x6009, 16, 16⟩⟩
def CONV_ROUND.retry : GField := ⟨⟨0x6009, 0, 8⟩⟩
def RACK_BUDGET.budget : GField := ⟨⟨0x600A, 0, 24⟩⟩
def CONV_CFG.share_hold : GField := ⟨⟨0x600B, 0, 8⟩⟩
def CONV_SERIAL.serial : GField := ⟨⟨0x600C, 0, 24⟩⟩
def CONV_TABLE.present (n : Nat) : GField := ⟨⟨0x6010 + 1 * n, 31, 1⟩⟩
def CONV_TABLE.may_lead (n : Nat) : GField := ⟨⟨0x6010 + 1 * n, 30, 1⟩⟩
def CONV_TABLE.leader (n : Nat) : GField := ⟨⟨0x6010 + 1 * n, 29, 1⟩⟩
def CONV_TABLE.sched (n : Nat) : GField := ⟨⟨0x6010 + 1 * n, 28, 1⟩⟩
def CONV_TABLE.misses (n : Nat) : GField := ⟨⟨0x6010 + 1 * n, 26, 2⟩⟩
def CONV_TABLE.share (n : Nat) : GField := ⟨⟨0x6010 + 1 * n, 0, 24⟩⟩
def CONV_TX.data (n : Nat) : GField := ⟨⟨0x6020 + 1 * n, 0, 32⟩⟩
def CONV_RX.data (n : Nat) : GField := ⟨⟨0x6030 + 1 * n, 0, 32⟩⟩
def CONV_TXCTRL.go : GField := ⟨⟨0x6028, 31, 1⟩⟩
def CONV_TXCTRL.busy : GField := ⟨⟨0x6028, 30, 1⟩⟩
def CONV_TXCTRL.result : GField := ⟨⟨0x6028, 28, 2⟩⟩
def CONV_TXCTRL.type_ : GField := ⟨⟨0x6028, 16, 8⟩⟩
def CONV_TXCTRL.dest : GField := ⟨⟨0x6028, 12, 4⟩⟩
def CONV_TXCTRL.broadcast : GField := ⟨⟨0x6028, 11, 1⟩⟩
def CONV_TXCTRL.count : GField := ⟨⟨0x6028, 0, 6⟩⟩
def CONV_RXSTAT.valid : GField := ⟨⟨0x6038, 31, 1⟩⟩
def CONV_RXSTAT.held2 : GField := ⟨⟨0x6038, 30, 1⟩⟩
def CONV_RXSTAT.type_ : GField := ⟨⟨0x6038, 16, 8⟩⟩
def CONV_RXSTAT.sender : GField := ⟨⟨0x6038, 12, 4⟩⟩
def CONV_RXSTAT.broadcast : GField := ⟨⟨0x6038, 11, 1⟩⟩
def CONV_RXSTAT.count : GField := ⟨⟨0x6038, 0, 6⟩⟩
def DENOC_STATUS.baud : GField := ⟨⟨0x7000, 16, 16⟩⟩
def DENOC_STATUS.last_nack : GField := ⟨⟨0x7000, 8, 4⟩⟩
def DENOC_STATUS.session : GField := ⟨⟨0x7000, 0, 1⟩⟩
def DENOC_CNT.frames : GField := ⟨⟨0x7001, 16, 16⟩⟩
def DENOC_CNT.nacks : GField := ⟨⟨0x7001, 8, 8⟩⟩
def DENOC_CNT.frame_err : GField := ⟨⟨0x7001, 0, 8⟩⟩
def FW_SLOTS.fuses : GField := ⟨⟨0x8000, 16, 7⟩⟩
def FW_SLOTS.selected : GField := ⟨⟨0x8000, 5, 1⟩⟩
def FW_SLOTS.running : GField := ⟨⟨0x8000, 4, 1⟩⟩
def FW_SLOTS.verified : GField := ⟨⟨0x8000, 3, 1⟩⟩
def FW_SLOTS.erased : GField := ⟨⟨0x8000, 2, 1⟩⟩
def FW_SLOTS.valid_b : GField := ⟨⟨0x8000, 1, 1⟩⟩
def FW_SLOTS.valid_a : GField := ⟨⟨0x8000, 0, 1⟩⟩
def FW_VER_A.version : GField := ⟨⟨0x8001, 0, 32⟩⟩
def FW_VER_B.version : GField := ⟨⟨0x8002, 0, 32⟩⟩
def FW_ACT_CYCLE.cycle : GField := ⟨⟨0x8003, 0, 32⟩⟩
def FW_ACT_CTRL.go : GField := ⟨⟨0x8004, 31, 1⟩⟩
def FW_ACT_CTRL.cancel : GField := ⟨⟨0x8004, 30, 1⟩⟩
def FW_ACT_CTRL.act_status : GField := ⟨⟨0x8004, 16, 3⟩⟩
def FW_ACT_CTRL.angle : GField := ⟨⟨0x8004, 0, 16⟩⟩
def FW_CTRL.commit : GField := ⟨⟨0x8005, 1, 1⟩⟩
def FW_CTRL.ready_ok : GField := ⟨⟨0x8005, 0, 1⟩⟩
def FW_STATUS.adopted : GField := ⟨⟨0x8006, 16, 16⟩⟩
def FW_STATUS.refuse : GField := ⟨⟨0x8006, 12, 4⟩⟩
def FW_STATUS.rack : GField := ⟨⟨0x8006, 8, 1⟩⟩
def FW_STATUS.phase : GField := ⟨⟨0x8006, 0, 4⟩⟩
def FLASH_ADDR.addr : GField := ⟨⟨0x8008, 0, 32⟩⟩
def FLASH_DATA_LO.data : GField := ⟨⟨0x8009, 0, 32⟩⟩
def FLASH_DATA_HI.data : GField := ⟨⟨0x800A, 0, 32⟩⟩
def FLASH_CMD.flash_result : GField := ⟨⟨0x800B, 4, 2⟩⟩
def FLASH_CMD.flash_busy : GField := ⟨⟨0x800B, 3, 1⟩⟩
def FLASH_CMD.op : GField := ⟨⟨0x800B, 0, 2⟩⟩
def REJECT_ADDR.addr : GField := ⟨⟨0xC0, 0, 32⟩⟩
def REJECT_INFO.index : GField := ⟨⟨0xC1, 16, 16⟩⟩
def REJECT_INFO.master : GField := ⟨⟨0xC1, 11, 5⟩⟩
def REJECT_INFO.port : GField := ⟨⟨0xC1, 7, 4⟩⟩
def REJECT_INFO.count : GField := ⟨⟨0xC1, 0, 7⟩⟩
def ARB_SEQ.seq : GField := ⟨⟨0xC2, 0, 32⟩⟩
def SCRATCH.data (n : Nat) : GField := ⟨⟨0xC4 + 1 * n, 0, 32⟩⟩
def PE_CLAIM.op : CField := ⟨⟨0x0, 29, 3⟩⟩
def PE_CLAIM.spec : CField := ⟨⟨0x0, 28, 1⟩⟩
def PE_CLAIM.raise : CField := ⟨⟨0x0, 27, 1⟩⟩
def PE_CLAIM.pd_kind : CField := ⟨⟨0x0, 25, 2⟩⟩
def PE_CLAIM.power : CField := ⟨⟨0x0, 0, 16⟩⟩
def PE_ANSWER.valid : CField := ⟨⟨0x1, 31, 1⟩⟩
def PE_ANSWER.answer : CField := ⟨⟨0x1, 28, 3⟩⟩
def PE_ANSWER.entry : CField := ⟨⟨0x1, 16, 6⟩⟩
def PE_ANSWER.power : CField := ⟨⟨0x1, 0, 16⟩⟩
def PE_HANDOVER.kind : CField := ⟨⟨0x2, 30, 2⟩⟩
def PE_EVENT.hw : CField := ⟨⟨0x3, 5, 1⟩⟩
def PE_EVENT.tc_change : CField := ⟨⟨0x3, 4, 1⟩⟩
def PE_EVENT.prompt : CField := ⟨⟨0x3, 3, 1⟩⟩
def PE_EVENT.answer : CField := ⟨⟨0x3, 2, 1⟩⟩
def PE_EVENT.tx_done : CField := ⟨⟨0x3, 1, 1⟩⟩
def PE_EVENT.rx : CField := ⟨⟨0x3, 0, 1⟩⟩
def PE_STAMP.seq : CField := ⟨⟨0x4, 0, 32⟩⟩
def PE_RX_HEAD.oldest : CField := ⟨⟨0x5, 8, 3⟩⟩
def PE_RX_HEAD.count : CField := ⟨⟨0x5, 0, 4⟩⟩
def PE_RX_ACK.release : CField := ⟨⟨0x6, 0, 1⟩⟩
def PE_TX.go : CField := ⟨⟨0x7, 3, 1⟩⟩
def PE_TX.slot : CField := ⟨⟨0x7, 0, 3⟩⟩
def PE_ADOPT.seq : CField := ⟨⟨0x8, 0, 32⟩⟩
def PE_KICK.key : CField := ⟨⟨0x3F, 0, 8⟩⟩

end Sys2Proof.Reg
end

