-- ==== Sys2Proof/Machine/Types.lean ====
section
/-! DEFINITION. The types of the hub's state that no register shows whole: engines, ledger, ports, Logbook, rack, firmware.
Registers themselves are words of `Hub.regs`; a quantity that a register shows and that is kept here has its only
home here. -/

namespace Sys2Proof.Machine

/-- The three parts (R1). -/
inductive Part where
  | vls1648
  | vls0848
  | vls0420
  deriving DecidableEq, Repr

/-- A supervisor or a port engine: 0–15 port engines, 16 supervisor A, 17 supervisor B. `ctl` holds the control
registers whose home is a word (TRAP_VEC and the like); CORE_ID, RS_DEPTH, IRQ_PEND and TIME are computed. -/
structure Engine where
  regs : Vector Word 32
  pc : Word
  ctl : Vector Word 16
  rstack : List Word
  waiting : Bool
  timeBase : Nat
  traps : List Nat
  deriving DecidableEq, Repr

/-- Ledger entry states (R190). -/
inductive EState where
  | free
  | shadow
  | tentative
  | waiting
  | committed
  | releasing
  | standby
  deriving DecidableEq, Repr

/-- Ledger entry kinds (chapter 05, word 0). -/
inductive EKind where
  | implicit
  | request
  | forecast
  | aux
  deriving DecidableEq, Repr

/-- A ramp position, or a start on the core clock (R221). -/
inductive RampAt where
  | pos (cycle : Word) (angle : BitVec 16)
  | override
  deriving DecidableEq, Repr

/-- A ledger entry (chapter 05, "Entry format"). The last four fields are not part of its words: whether it is of a
PPS or AVS contract (R196), the claim that last made or changed it (R198), its output voltage (R216), and its place in
the arbiter's order, fixed when its claim is stamped (R36). -/
structure Entry where
  st : EState
  cls : Nat
  raise : Bool
  kind : EKind
  port : Fin 16
  tool : Bool
  spec : Bool
  overCut : Bool
  power : Nat
  seq : Word
  floor : Nat
  accepted : Bool
  prompted : Bool
  override : Bool
  supersedes : Option (Fin 64)
  ramp : Option RampAt
  pps : Bool
  owner : Word
  volt : Nat
  place : Nat
  deriving DecidableEq, Repr

/-- Stored totals of a node (R186): committed, tentative, standby. -/
structure NodeTotals where
  committed : Nat
  tentative : Nat
  standby : Nat
  deriving DecidableEq, Repr

/-- An undo record (R198–R201): owner, entry, prior image, and by how much the claim lowered an entry that it trimmed: 0 in
the claim's own record, and once a cut or a restore has moved the entry since. -/
structure Undo where
  owner : Word
  idx : Fin 64
  image : Entry
  cut : Nat
  deriving DecidableEq, Repr

/-- Kinds of start (R221). -/
inductive RampKind where
  | a
  | b
  | c
  | frs
  deriving DecidableEq, Repr

/-- A start handed over and not yet begun: where it begins, its window's last position, whether it overrides, and on the
core clock (R223) when its window opens and closes, none for kind C, and when it begins if it has no position. -/
structure RampStart where
  port : Fin 16
  kind : RampKind
  at_ : RampAt
  last : RampAt
  override : Bool
  opens : Nat
  closes : Option Nat
  due : Nat
  deriving DecidableEq, Repr

/-- The ledger: 64 entries, 21 node totals (0–15 ports, 16–19 quads, 20 hub), undo records newest first, starts in the
order of their assignment, and after a write of RAMP_CFG.per_half the value that positions before a tick keep (R226). -/
structure Ledger where
  entries : Vector Entry 64
  totals : Vector NodeTotals 21
  undo : List Undo
  ramps : List RampStart
  oldHalf : Option (Nat × Nat)
  deriving DecidableEq, Repr

/-- Timers of a port that run (R103, R180 and chapters 06 to 08). A timer is listed while it runs. -/
inductive Tmr where
  | ccDebounce
  | pdDebounce
  | drpTry
  | tryTimeout
  | vbusOn
  | detachWindow
  | discharge
  | rest
  | drainHardReset
  | tReceive
  | chunk
  | discover
  | srcCaps
  | senderResponse
  | battery
  | pps
  | eprSource
  | sinkWait
  | sinkPsRdy
  | sinkPps
  | sinkEpr
  | sinkTx
  | hrVbusOff
  | hrRecover
  | sinkHr
  | lowering
  | psRdy
  | cutLimit
  | promptHold
  | swapWait
  | prSourceOff
  | prPsRdy
  | vconnReady
  | vconnPsRdy
  | frsVbus
  | frsMsg
  | inrush
  | gate
  | leak
  | leakStep
  deriving DecidableEq, Repr

/-- Swaps (R228). -/
inductive SwapKind where
  | pr
  | dr
  | vconn
  deriving DecidableEq, Repr

/-- The step of a swap in progress. -/
inductive SwapStep where
  | granting
  | requested
  | acceptSent
  | accepted
  | sourceOff
  | psRdySent
  | awaitPsRdy
  | turnOn
  | laneOn
  deriving DecidableEq, Repr

/-- A swap in progress (R235): who asked, the step, repeats made after Wait. -/
structure Swap where
  kind : SwapKind
  own : Bool
  step : SwapStep
  repeats : Nat
  deriving DecidableEq, Repr

/-- Fast Role Swap steps of a port (R247–R250, R260–R263). -/
inductive FrsStep where
  | none
  | recognised
  | frSwapSent
  | frAccepted
  | signalling
  | awaitVbus
  | feedSwapped
  | feeding
  deriving DecidableEq, Repr

/-- Messages the hub sends. -/
inductive Msg where
  | accept
  | acceptTransition
  | reject
  | wait
  | psRdy
  | psRdySwap
  | softReset
  | hardReset
  | notSupported
  | getSourceCap
  | getSinkCap
  | getSinkCapExt
  | getStatus
  | getBattery
  | sourceCaps (epr : Bool) (pdos : List Pdo)
  | sinkCaps (epr : Bool) (pdos : List Pdo)
  | sourceCapsExt
  | sinkCapsExt
  | status
  | ppsStatus
  | alertCondition
  | alertSource
  | eprEnterAck
  | eprSucceeded
  | eprFailed (cause : Nat)
  | eprExit
  | eprKeepAlive
  | eprKeepAliveAck
  | discoverCable
  | discoverPartner
  | vdmAck (vdos : List Word)
  | vdmNak
  | request (raw : Word)
  | eprRequest (raw copied : Word)
  | swapRequest (k : SwapKind)
  | acceptSwap (k : SwapKind)
  | frSwap
  | acceptFrs
  | acceptSoftReset
  | chunkRequest
  | chunk (source : Bool) (pdos : List Pdo) (n : Nat)
  | waitSwap
  | rejectSwap
  | firmware (slot : Fin 4)
  deriving DecidableEq, Repr

/-- The content a speculative reply was built on (R154, R156). -/
structure SpecClaim where
  epr : Bool
  rdo : Option Rdo
  power : Nat
  deriving DecidableEq, Repr

/-- A contract being entered or in force: RDO, the PDO, 10 mV, mA, kind, 0.1 W, and whether it raises (R162). -/
structure Deal where
  rdo : Rdo
  pdo : Pdo
  epr : Bool
  volt : Nat
  amp : Nat
  power : Nat
  raise : Bool
  deriving DecidableEq, Repr

/-- Where a draining port stands (R124). -/
inductive Drain where
  | none
  | frame
  | hardReset
  | discharge
  deriving DecidableEq, Repr

/-- Where a Hard Reset of a port stands (R175, R176). -/
inductive HrStep where
  | none
  | waitOff
  | off
  | recovering
  deriving DecidableEq, Repr

/-- The loops of a stage (chapter 07): integrators, current reference, the errors of the last updates and m, all Q1.15; whether
m stands at a limit; the trim of R291 in 0.1 mV; VCx at the last conversion (10 mV), output and pass current (mA); and the
core clock of the entry to REVERSE. -/
structure Loop where
  iv : Int
  ii : Int
  iRef : Int
  eV : Int
  eI : Int
  m : Int
  sat : Bool
  trim : Nat
  last : Nat
  iOut : Int
  iPass : Int
  since : Nat
  deriving DecidableEq, Repr

/-- A stretch of vnow that has ended (R303): from, towards, rate in 10 mV/ms, its first and last core clock. -/
structure Slew where
  start : Nat
  goal : Nat
  rate : Nat
  clk : Nat
  stop : Nat
  deriving DecidableEq, Repr

/-- What the analogue inputs of a port show, held between the commands that carry readings (log entry 106): VCx and VBUS in
10 mV, the current through the sense resistor in mA, GATEx − SRCx in 10 mV, the NTC in 0.125 °C, the lanes in 10 mV. -/
structure PortPins where
  node : BitVec 16
  bus : BitVec 16
  sense : BitVec 16
  vgs : BitVec 16
  ntc : BitVec 16
  ccA : BitVec 16
  ccB : BitVec 16
  deriving DecidableEq, Repr

/-- Per-port state that no register shows. -/
structure PortH where
  timers : List (Tmr × Nat)
  laneA : Term
  laneB : Term
  isoA : Bool
  isoB : Bool
  sinkVbus : Bool
  accessory : Bool
  role : Nat
  rpLevel : Nat
  trySrc : Bool
  pdOn : Bool
  tryDone : Bool
  rpShown : Nat
  implicitTry : Nat
  attachNo : Nat
  drain : Drain
  hr : HrStep
  firstDone : Bool
  txq : List Msg
  amsq : List Msg
  retries : Nat
  txId : Fin 8
  txIdP : Fin 8
  rxId : Option (Fin 8)
  rxIdP : Option (Fin 8)
  ringFirst : Fin 8
  ringCount : Nat
  chunkData : List Byte
  chunkOut : Option (Msg × Nat)
  acked : List Pdo
  ackedEpr : Bool
  partnerSink : List Pdo
  partnerSource : List Pdo
  spec : Option SpecClaim
  prevRdo : Option Rdo
  pending : Option Deal
  deal : Option Deal
  hrTimes : List Nat
  hrSilent : Nat
  capsSent : Nat
  discTries : Nat
  discTotal : Nat
  capsDue : Bool
  capsPrompt : Bool
  cutKept : Bool
  eprEntry : Bool
  identity : Identity
  swap : Option Swap
  drSwapDone : Bool
  frs : FrsStep
  txSlots : List (Fin 4)
  hrOwed : Bool
  vsetHeld : Option Nat
  vsetEff : Nat
  vFrom : Nat
  vClk : Nat
  vPast : List Slew
  discharging : Bool
  loop : Loop
  pins : PortPins
  hkBus : Nat
  hkNtc : BitVec 16
  ilimHeld : Option Nat
  ilimEff : Nat
  fswHeld : Option Nat
  coefStaged : Vector (Option Word) 3
  soa : Nat
  ovpHolds : Bool
  otHolds : Bool
  ccHolds : Bool
  auto : Bool
  lastRequest : Nat
  lastEpr : Nat
  idStored : Bool
  burst : Bool
  minAmp : Nat
  battClk : Option Nat
  vconnAsked : Bool
  stale : Bool
  awaiting : Option Msg
  arriving : Bool
  asked : Option Deal
  cableAnswered : Bool
  rediscover : Bool
  shadowMade : Bool
  vconnTripped : Bool
  vconnDuty : Bool
  deriving DecidableEq, Repr

/-- A pack profile of the card (R359). -/
structure Profile where
  idx : Nat
  tool : Bool
  cls : Option Nat
  vid : BitVec 16
  pid : BitVec 16
  forecast : Nat
  minAmp : Nat
  deriving DecidableEq, Repr

/-- What the card in use says of a port (R359): templates, sink window, sense resistor, fixed voltage. -/
structure PortCard where
  present : Bool
  bc12 : Bool
  spr : List Pdo
  epr : List Pdo
  snkLow : Nat
  snkHigh : Nat
  snkPower : Nat
  rsense : Nat
  fixedV : Nat
  deriving DecidableEq, Repr

/-- What the card in use says of the hub. -/
structure Card where
  siteRack : Nat
  convoyOffset : Nat
  quadCap : Vector Nat 4
  ports : Vector PortCard 16
  profiles : List Profile
  identity : List Word
  deriving DecidableEq, Repr

/-- An accepted reference edge: core clock and tick of it, both since reset, and whether its interval was valid (R64). -/
structure Edge where
  clk : Nat
  tick : Nat
  valid : Bool
  deriving DecidableEq, Repr

/-- The Sundial beside its registers: angle, cycle, ticks and core clocks since reset, the clock fraction carried,
accepted edges, run of in-limit edges (R65), run of valid ACZ edges since MAINS_LOST (R75), ticks left to slew
(R76), owners, interrupt enables and late marks (R83, R86) of slots, and the fired slots that interrupt supervisors A and
B (R80), and the tick of READY (R355). -/
structure SunH where
  angle : BitVec 16
  cycle : Word
  ticks : Nat
  clk : Nat
  frac : Nat
  acz : Option Edge
  ref : Option Edge
  inLimit : Nat
  returnEdges : Nat
  slew : Int
  slotOwner : Vector (Option Master) 32
  slotIrq : Vector Bool 32
  slotLate : BitVec 32
  irqA : BitVec 32
  irqB : BitVec 32
  cardSource : Nat
  readyTick : Option Nat
  deriving DecidableEq, Repr

/-- A Logbook entry (R473): its four words, and whether it continues the one before. -/
structure LogEntry where
  w0 : Word
  w1 : Word
  w2 : Word
  w3 : Word
  cont : Bool
  deriving DecidableEq, Repr

/-- An event waiting to persist (R479): entry, continuation, fault status, epoch. -/
structure Persist where
  entry : LogEntry
  cont : Option LogEntry
  lo : Word
  hi : Word
  epoch : BitVec 16
  deriving DecidableEq, Repr

/-- A Check Unit channel's pass (R484–R495): running CRC, bytes processed, whether a FEED pass is open, and the alive
reference. -/
structure Chan where
  crc : Nat
  done : Nat
  feedOpen : Bool
  ref : Option Nat
  deriving DecidableEq, Repr

/-- A firmware message held for the supervisor (R551). -/
structure FwMsg where
  sender : Nat
  broadcast : Bool
  type_ : BitVec 8
  payload : List Byte
  deriving DecidableEq, Repr

/-- Frames this hub sends on the Convoy bus (R541). -/
inductive ConvFrame where
  | hello
  | joinAck (dest : Nat) (handover : Bool) (serial : BitVec 24)
  | joinRefused (dest : Nat) (site : Bool) (serial : BitVec 24)
  | leave
  | poll
  | demand (d : Demand)
  | share (high : Bool)
  | firmware
  deriving DecidableEq, Repr

/-- A frame as it stands in the queue (R522, R541): its address byte, its type and its payload, taken when it was queued. -/
structure QFrame where
  kind : ConvFrame
  dest : BitVec 8
  type_ : BitVec 8
  payload : List Byte
  deriving DecidableEq, Repr

/-- A member as the leader knows it (R535, R543): the serial that holds the entry, once known, its last summary, whether
it has sent DEMAND in this round, and whether it has sent LEAVE. The rest of its entry stands in CONV_TABLE. -/
structure Member where
  serial : Option (BitVec 24)
  last : Demand
  fresh : Bool
  leaving : Bool
  deriving DecidableEq, Repr

/-- The Convoy controller and the rack beside their registers: frames queued, retries and losses of the one in front,
the bytes of the frame delivered last with its PEC (R522), firmware messages held, the leader's members and whether it collects DEMAND; the cycle of the round seen last, whether a
SHARE has come for it, a POLL heard since READY, the share to be applied, the may-lead mask and the own summary of the
last POLL; the hub that takes the lead over, whether this hub does, HELLO due, the tick of the last SYNC pulse accepted,
and the cycle of the last refusal. -/
structure RackH where
  queue : List QFrame
  retries : Nat
  losses : Nat
  wire : List Byte
  rx : List FwMsg
  members : Vector (Option Member) 16
  collecting : Bool
  roundCycle : Word
  shareSeen : Bool
  pollHeard : Bool
  newShare : Option Nat
  mayLeadMask : BitVec 16
  ownDemand : Option Demand
  handover : Option (Fin 16)
  takeLead : Bool
  helloDue : Bool
  syncTick : Option Nat
  refusedAt : Word
  deriving DecidableEq, Repr

/-- What an image header says (R558). -/
structure ImageHdr where
  length : Nat
  version : Word
  counter : Nat
  bEntry : Word
  aEntry : Word
  aRestart : Word
  bLink : Word
  sections : List (Nat × Nat × Nat × Word)
  deriving DecidableEq, Repr

/-- Replies of the Denoc port (R554). -/
inductive DenocReply where
  | none
  | echo
  | ack (type_ seq : BitVec 8) (payload : List Byte)
  | nack (type_ seq : BitVec 8) (reason : BitVec 8) (more : List Byte)
  deriving DecidableEq, Repr

/-- What the flash controller or the Denoc port is doing. -/
inductive FlashJob where
  | none
  | program (addr lo hi : Word)
  | erase (addr : Word)
  | eraseSlot (slot : Bool) (seq : BitVec 8)
  | verify (slot : Bool) (seq : BitVec 8)
  | cardErase (copyB : Bool)
  deriving DecidableEq, Repr

/-- Firmware slots, Denoc and the warm restart beside their registers: the reply and the sequence of the last command
executed, the bytes last sent on SVC_TX, the clock of the last valid frame, the jobs in progress, bytes written into each
slot since its erase, what VERIFY found of them, the slot erased last, card copies erased since the start, words programmed
since their erase, the clock of slot 4's firing, sequence and clock of the restart stamp, ready_ok, the running image's
counter, and the key hash in OTP. -/
structure FwH where
  reply : DenocReply
  sent : List Byte
  heardClk : Nat
  lastSeq : Option (BitVec 8)
  job : FlashJob
  cardJob : FlashJob
  flashJob : FlashJob
  writtenA : Option Nat
  writtenB : Option Nat
  verifiedA : Bool
  verifiedB : Bool
  failedA : Bool
  failedB : Bool
  lastErased : Bool
  erasedCardA : Bool
  erasedCardB : Bool
  programmed : List Nat
  stampSeq : Word
  firedClk : Nat
  stampClk : Nat
  readyOk : Bool
  commitCounter : Nat
  keyHash : List Byte
  deriving DecidableEq, Repr

/-- What a host transaction returns: data bytes, and the PEC that the hub appends to them (R512). -/
structure HostH where
  reply : List Byte
  pec : Option Byte
  deriving DecidableEq, Repr

/-- Input pins and straps (R9, R501, R574). -/
structure Straps where
  addrC : Fin 16
  addrH : Fin 4
  wakeLow : Bool
  aczActive : Bool
  deriving DecidableEq, Repr

/-- Power modes (R368) and the phases outside them. -/
inductive Power where
  | reset
  | run
  | watch
  | ship
  deriving DecidableEq, Repr

/-- Everything but the engines and the queue. `stamps` counts the events stamped since power-on reset and never wraps (R36);
`attachedClk` is the core clock at which a port last left an attached state (R369), `startClk` that of the end of step 9
(R348), `supKick` and `peKick` those from which each supervisor's and each port engine's watchdog counts (R384, R397).
`host` is what the last host transaction returned, `whistled` the core clock of the last whistle while one is pending (R519).
`returnPending` and `returnedClk`: MAINS_RETURNED was stamped, at this core clock, and its return_delay has not run out
(R269). `safeDue` (ports a latch sends to safe state, R628), `freed` (budget has freed, R204), `entryFreed` (an entry has,
R206), `alertsDue` (ports that a claim has trimmed, R142), `lostFeeds` (feeding ports lost, R265), `overruns` (overwrites that
latch source 53, R475) and `resets` (engines released, R412) are worked off within the same command and are empty between
commands. -/
structure Hub where
  part : Part
  stepping : Nat
  straps : Straps
  power : Power
  regs : List (Nat × Word)
  mem : List (Nat × BitVec 8)
  poison : List Nat
  upsets : List (Nat × Nat)
  sun : SunH
  lastGrant : Nat
  stamps : Nat
  ports : Vector PortH 16
  ledger : Ledger
  attachCount : Nat
  attachedClk : Nat
  startClk : Nat
  card : Card
  logRing : List LogEntry
  flashQueue : List Persist
  overruns : Nat
  hubSafe : BitVec 64
  portSafe : BitVec 16
  monitors : Monitors
  vhubPins : Vector (BitVec 16) 4
  vconnGood : Bool
  chans : Vector Chan 2
  host : HostH
  whistled : Option Nat
  rack : RackH
  fw : FwH
  returnPending : Bool
  returnedClk : Nat
  flaskClk : Nat
  supKick : Vector Nat 2
  peKick : Vector Nat 16
  takeover : BitVec 2
  freeCount : Nat
  resets : List (Fin 18 × Word)
  safeDue : List (Fin 16)
  lostFeeds : List (Fin 16)
  alertsDue : List (Fin 16)
  freed : Bool
  entryFreed : Bool
  deriving DecidableEq, Repr

end Sys2Proof.Machine
end

