-- ==== Sys2Proof/Machine/State.lean ====
section
/-! DEFINITION. The state of the machine, why a step may stop, and the state after power-on reset. -/

namespace Sys2Proof.Machine

/-- Why the machine stops: never. Every row of the command table has its effect, whatever its operands, and a command whose
event cannot happen leaves the state as it is (log entry 7). -/
inductive Fault where
  deriving DecidableEq, Repr

/-- Why the machine refuses a command. -/
inductive Refusal where
  /-- A command that has no meaning in this model yet. Stopping is safe. -/
  | notModelled (mnemonic : String)
  deriving DecidableEq, Repr

/-- The hub, its eighteen engines (0–15 port engines, 16 supervisor A, 17 supervisor B), and the commands waiting. -/
structure State where
  hub : Hub
  engines : Vector Engine 18
  pending : List Instr
  deriving DecidableEq, Repr

/-- An engine as a release leaves it (R412, R435, R438): registers zero, stacks empty, at address `pc`. -/
def Engine.fresh (pc : Word) (now : Nat) : Engine :=
  { regs := Vector.replicate 32 0, pc := pc, ctl := Vector.replicate 16 0, rstack := [], waiting := false,
    timeBase := now, traps := [] }

/-- A FREE ledger entry (R186): zero in all words. -/
def Entry.free : Entry :=
  { st := .free, cls := 0, raise := false, kind := .implicit, port := 0, tool := false, spec := false,
    overCut := false, power := 0, seq := 0, floor := 0, accepted := false, prompted := false, override := false,
    supersedes := none, ramp := none, pps := false, owner := 0, volt := 0, place := 0 }

/-- An empty ledger. -/
def Ledger.empty : Ledger :=
  { entries := Vector.replicate 64 Entry.free, totals := Vector.replicate 21 ⟨0, 0, 0⟩, undo := [], ramps := [], oldHalf := none }

/-- A stage's loops at power-on reset: no error and no ratio. -/
def Loop.still : Loop :=
  { iv := 0, ii := 0, iRef := 0, eV := 0, eI := 0, m := 0, sat := false, trim := 0, last := 0, iOut := 0, iPass := 0,
    since := 0 }

/-- The analogue inputs of a port before any command has told of them (log entry 106). -/
def PortPins.zero : PortPins := { node := 0, bus := 0, sense := 0, vgs := 0, ntc := 0x8000, ccA := 0, ccB := 0 }

/-- A port at power-on reset. -/
def PortH.fresh : PortH :=
  { timers := [], laneA := .open_, laneB := .open_, isoA := false, isoB := false, sinkVbus := false, accessory := false, role := 2, rpLevel := 2,
    trySrc := true, pdOn := true, tryDone := false, rpShown := 2, implicitTry := 2, attachNo := 0, drain := .none,
    hr := .none, firstDone := false, txq := [], amsq := [], retries := 0, txId := 0, txIdP := 0, rxId := none, rxIdP := none,
    ringFirst := 0, ringCount := 0, chunkData := [], chunkOut := none, acked := [], ackedEpr := false, partnerSink := [],
    partnerSource := [], spec := none, prevRdo := none, pending := none, deal := none, hrTimes := [], hrSilent := 0,
    capsSent := 0, discTries := 0, discTotal := 0, capsDue := false, capsPrompt := false, cutKept := false, eprEntry := false, identity := .partner 0 0,
    swap := none, drSwapDone := false, frs := .none, txSlots := [], hrOwed := false, vsetHeld := none, vsetEff := 0, vFrom := 0, vClk := 0,
    vPast := [], discharging := false, loop := Loop.still, pins := PortPins.zero, hkBus := 0, hkNtc := 0x8000,
    ilimHeld := none, ilimEff := 0, fswHeld := none, coefStaged := Vector.replicate 3 none,
    soa := 0, ovpHolds := false, otHolds := false, ccHolds := false, auto := false,
    lastRequest := 0, lastEpr := 0, idStored := false, burst := false, minAmp := 500, battClk := none,
    vconnAsked := false, stale := false, awaiting := none, arriving := false, asked := none, cableAnswered := false,
    rediscover := false, shadowMade := false, vconnTripped := false, vconnDuty := false }

/-- The 5.00 V, 3.00 A template of a port that no SRC_PDO record names (R359). -/
def Pdo.fiveVolt : Pdo :=
  { kind := .fixed, vmin := 500, vmax := 500, amp := 3000, pdp := 0, dualRole := false, unconstrained := false,
    eprCapable := false, frs := 0 }

/-- A port without records (R359). -/
def PortCard.none : PortCard :=
  { present := false, bc12 := false, spr := [Pdo.fiveVolt], epr := [], snkLow := 500, snkHigh := 500, snkPower := 150,
    rsense := 0, fixedV := 0 }

/-- No card: the factory card of R365. -/
def Card.none : Card :=
  { siteRack := 0, convoyOffset := 0, quadCap := Vector.replicate 4 0xFFFF, ports := Vector.replicate 16 PortCard.none,
    profiles := [], identity := [] }

/-- The Sundial at power-on reset (R58). -/
def SunH.fresh : SunH :=
  { angle := 0, cycle := 0, ticks := 0, clk := 0, frac := 0, acz := none, ref := none, inLimit := 0, returnEdges := 0,
    slew := 0, slotOwner := Vector.replicate 32 none, slotIrq := Vector.replicate 32 false,
    slotLate := 0, irqA := 0, irqB := 0, cardSource := 2, readyTick := none }

/-- The rack side at power-on reset. -/
def RackH.fresh : RackH :=
  { queue := [], retries := 0, losses := 0, rx := [], members := Vector.replicate 16 none, collecting := false,
    wire := [], roundCycle := 0, shareSeen := false, pollHeard := false, newShare := none, mayLeadMask := 0, ownDemand := none,
    handover := none, takeLead := false, helloDue := false, syncTick := none, refusedAt := 0 }

/-- Firmware and Denoc at power-on reset. -/
def FwH.fresh (keyHash : List Byte) : FwH :=
  { reply := .none, sent := [], heardClk := 0, lastSeq := none, job := .none, cardJob := .none, flashJob := .none,
    writtenA := none, writtenB := none, verifiedA := false, verifiedB := false, failedA := false, failedB := false,
    lastErased := false, erasedCardA := false, erasedCardB := false, programmed := [], stampSeq := 0, firedClk := 0,
    stampClk := 0, readyOk := false, commitCounter := 0, keyHash := keyHash }

/-- No monitor condition holds. -/
def Monitors.quiet : Monitors :=
  { vhubOver := false, vhubUnder := false, vsysLow := false, buckFault := false, dieWarm := false, dieHot := false,
    clockBad := false, debugHeld := false }

/-- What power-on reset leaves of a hub of this part (R346), with the registers that straps, latches and factory data
fill given by `regs`, and flash, straps and fuses as they were. -/
def Hub.powerOn (part : Part) (stepping : Nat) (straps : Straps) (keyHash : List Byte) (regs : List (Nat × Word))
    (flash : List (Nat × BitVec 8)) (freeCount : Nat) : Hub :=
  { part := part, stepping := stepping, straps := straps, power := .reset, regs := regs, mem := flash,
    poison := [], upsets := [], sun := SunH.fresh, lastGrant := 24, stamps := 0,
    ports := Vector.replicate 16 PortH.fresh, ledger := Ledger.empty, attachCount := 0, attachedClk := 0,
    startClk := 0, card := Card.none, logRing := [], flashQueue := [], overruns := 0, hubSafe := 0, portSafe := 0,
    monitors := Monitors.quiet, vhubPins := Vector.replicate 4 0, vconnGood := true,
    chans := Vector.replicate 2 ⟨0, 0, false, none⟩, host := ⟨[], none⟩, whistled := none, rack := RackH.fresh,
    fw := FwH.fresh keyHash, returnPending := false, returnedClk := 0, flaskClk := 0,
    supKick := Vector.replicate 2 0, peKick := Vector.replicate 16 0, takeover := 0, freeCount := freeCount,
    resets := [], safeDue := [], lostFeeds := [], alertsDue := [], freed := false, entryFreed := false }

/-- The registers that straps, the wake latch and factory data fill at a first start (log entries 2 to 4): WAKE_CAUSE
cold, HOST_CFG with address 0x28, CONV_LINK with address 0x50. -/
def firstRegs : List (Nat × Word) := [(0x5, 0x8), (0x5000, 0x642841), (0x6000, 0x500001)]

/-- The machine at power-on reset: a VLS1648 of stepping B1 (log entry 1), supervisor A about to fetch from boot ROM. -/
def State.reset : State :=
  { hub := Hub.powerOn .vls1648 1 { addrC := 0, addrH := 0, wakeLow := false, aczActive := false } [] firstRegs [] 0,
    engines := (Vector.replicate 18 (Engine.fresh 0 0)).set 17 (Engine.fresh 0x20000000 0),
    pending := [] }

end Sys2Proof.Machine
end

