-- ==== Sys2Proof/Machine/Regs.lean ====
section
/-! DEFINITION. Reading and writing register fields inside the hub: what an unlisted register reads as, keys, and one
accessor per kind of field. Software's accesses go through the bus (BusAccess.lean), never through these. -/

namespace Sys2Proof.Machine

/-- The sixteen ports, in ascending order. -/
def allPorts : List (Fin 16) := [0, 1, 2, 3, 4, 5, 6, 7, 8, 9, 10, 11, 12, 13, 14, 15]

/-- The number that software sees of a master (R27). -/
def masterId : Master → Nat
  | .pe p => p.val
  | .supA => 16
  | .supB => 17
  | .host => 20
  | .denoc => 21
  | .debug => 22

/-- The arbiter requester of an event that a master's write causes (R627). -/
def masterRequester : Master → Nat
  | .pe p => p.val
  | .supA => 16
  | .supB => 17
  | .host => 21
  | .denoc => 22
  | .debug => 24

/-- Index of a master among the holders of per-master copies (R88, R477). -/
def copyIndex : Master → Nat
  | .supA => 0
  | .supB => 1
  | .host => 2
  | .denoc => 3
  | .debug => 4
  | .pe p => 5 + p.val

/-- Ports of a part (R1). -/
def Part.ports : Part → Nat
  | .vls1648 => 16
  | .vls0848 => 8
  | .vls0420 => 4

/-- Quads of a part (R1). -/
def Part.quads (p : Part) : Nat := p.ports / 4

/-- EPR, Convoy leading, BC 1.2 switches and supervisor B are present on the two larger parts (R1, R590). -/
def Part.large : Part → Bool
  | .vls0420 => false
  | _ => true

/-- The signature's part number (R588). -/
def Part.code : Part → Nat
  | .vls1648 => 0x1648
  | .vls0848 => 0x0848
  | .vls0420 => 0x0420

/-- A mask with one bit for each present port. -/
def Part.portMask (p : Part) : Nat := 2 ^ p.ports - 1

def lookupReset : List (Nat × Nat) → Nat → Nat
  | [], _ => 0
  | (j, v) :: l, k => if k = j then v else lookupReset l k

/-- Key of a PORT window word. -/
def portKey (p : Fin 16) (w : Nat) : Nat := 0x20000 + p.val * 0x1000 + w

/-- Key of a QUAD window word. -/
def quadKey (q : Fin 4) (w : Nat) : Nat := 0x40000 + q.val * 0x1000 + w

/-- Key of a claim interface word. -/
def claimKey (p : Fin 16) (w : Nat) : Nat := 0x60000 + p.val * 0x1000 + w

/-- Key of a master's own copy of a register. -/
def masterKey (m : Master) (w : Nat) : Nat := 0x80000 + copyIndex m * 0x10000 + w

/-- Key of a master's copy of a port's STAGE_TELEM2. -/
def telemKey (m : Master) (p : Fin 16) : Nat := 0x200000 + copyIndex m * 0x10 + p.val

/-- Sources that the part lacks (R455). -/
def Part.absentSource (p : Part) (src : Nat) : Bool :=
  match p with
  | .vls1648 => false
  | .vls0848 => (8 ≤ src && src ≤ 15) || src == 51 || src == 52
  | .vls0420 => (4 ≤ src && src ≤ 15) || src == 24 || (50 ≤ src && src ≤ 52)

/-- The bits of FAULT_SEVk that belong to present sources. -/
def Part.sevMask (part : Part) (k : Nat) : Nat :=
  (List.range 16).foldl (fun a j => if part.absentSource (16 * k + j) then a else a + 3 * 4 ^ j) 0

/-- What an unlisted register word reads as: its reset word (R346, R360). -/
def resetWord (part : Part) (k : Nat) : Word :=
  if k < 0x10000 then
    if k = 0x9009 then BitVec.ofNat 32 part.portMask
    else if 0x3008 ≤ k ∧ k ≤ 0x300B then
      BitVec.ofNat 32 (lookupReset hubResets k) &&& BitVec.ofNat 32 (part.sevMask (k - 0x3008))
    else if k = 0x9002 ∧ !part.large then 0xA
    else if k = 0x9004 ∧ !part.large then 0
    else BitVec.ofNat 32 (lookupReset hubResets k)
  else if k < 0x20000 then 0
  else if k < 0x40000 then
    if k % 0x1000 = 0x10 && !part.large then 0x4079
    else BitVec.ofNat 32 (lookupReset portResets (k % 0x1000))
  else if k < 0x200000 then 0
  else 0x80000000

/-- The field's value in a word. -/
def Bits.get (b : Bits) (w : Word) : Nat := w.toNat / 2 ^ b.lo % 2 ^ b.width

/-- The word with the field set to `v`, cut to its width. -/
def Bits.put (b : Bits) (v : Nat) (w : Word) : Word :=
  BitVec.ofNat 32 (w.toNat - b.get w * 2 ^ b.lo + v % 2 ^ b.width * 2 ^ b.lo)

namespace Hub

/-- A register word. -/
def word (h : Hub) (k : Nat) : Word := sparseGet (resetWord h.part) h.regs k

/-- Set a register word. -/
def setWord (k : Nat) (v : Word) (h : Hub) : Hub := { h with regs := sparseSet (resetWord h.part) h.regs k v }

/-- Read a field of a register that exists once. -/
def rd (h : Hub) (f : GField) : Nat := f.bits.get (h.word f.bits.key)

/-- Write a field of a register that exists once. -/
def wr (f : GField) (v : Nat) (h : Hub) : Hub := h.setWord f.bits.key (f.bits.put v (h.word f.bits.key))

/-- Read a field of a port. -/
def prd (h : Hub) (p : Fin 16) (f : PField) : Nat := f.bits.get (h.word (portKey p f.bits.key))

/-- Write a field of a port. -/
def pwr (p : Fin 16) (f : PField) (v : Nat) (h : Hub) : Hub :=
  h.setWord (portKey p f.bits.key) (f.bits.put v (h.word (portKey p f.bits.key)))

/-- Read a field of a quad. -/
def qrd (h : Hub) (q : Fin 4) (f : QField) : Nat := f.bits.get (h.word (quadKey q f.bits.key))

/-- Write a field of a quad. -/
def qwr (q : Fin 4) (f : QField) (v : Nat) (h : Hub) : Hub :=
  h.setWord (quadKey q f.bits.key) (f.bits.put v (h.word (quadKey q f.bits.key)))

/-- Read a field of a port engine's claim interface. -/
def crd (h : Hub) (p : Fin 16) (f : CField) : Nat := f.bits.get (h.word (claimKey p f.bits.key))

/-- Write a field of a port engine's claim interface. -/
def cwr (p : Fin 16) (f : CField) (v : Nat) (h : Hub) : Hub :=
  h.setWord (claimKey p f.bits.key) (f.bits.put v (h.word (claimKey p f.bits.key)))

/-- Read a field of a master's own copy. -/
def mrd (h : Hub) (m : Master) (f : MField) : Nat := f.bits.get (h.word (masterKey m f.bits.key))

/-- Write a field of a master's own copy. -/
def mwr (m : Master) (f : MField) (v : Nat) (h : Hub) : Hub :=
  h.setWord (masterKey m f.bits.key) (f.bits.put v (h.word (masterKey m f.bits.key)))

/-- A one-bit field, or a field that is not zero. -/
def is (h : Hub) (f : GField) : Bool := h.rd f != 0

/-- A one-bit field of a port. -/
def pis (h : Hub) (p : Fin 16) (f : PField) : Bool := h.prd p f != 0

/-- A one-bit field of a claim interface. -/
def cis (h : Hub) (p : Fin 16) (f : CField) : Bool := h.crd p f != 0

/-- Set a counter one higher, saturating at its width (RC counters). -/
def bump (f : GField) (h : Hub) : Hub := h.wr f (min (h.rd f + 1) (2 ^ f.bits.width - 1))

/-- Set a port's counter one higher, saturating. -/
def pbump (p : Fin 16) (f : PField) (h : Hub) : Hub := h.pwr p f (min (h.prd p f + 1) (2 ^ f.bits.width - 1))

/-- A port's hidden state. -/
def port (h : Hub) (p : Fin 16) : PortH := h.ports[p]

/-- Change a port's hidden state. -/
def mapPort (p : Fin 16) (f : PortH → PortH) (h : Hub) : Hub := { h with ports := h.ports.set p (f h.ports[p]) }

/-- The port is present on the part (R1). -/
def present (h : Hub) (p : Fin 16) : Bool := p.val < h.part.ports

/-- Present ports in ascending order. -/
def presentPorts (h : Hub) : List (Fin 16) := allPorts.filter h.present

/-- The quad of a port. -/
def quadOf (p : Fin 16) : Fin 4 := ⟨p.val / 4, by omega⟩

/-- Apply a change if a condition holds. -/
def when (c : Bool) (f : Hub → Hub) (h : Hub) : Hub := if c then f h else h

/-- Apply a change for each member of a list, in order. -/
def each {α : Type} (l : List α) (f : α → Hub → Hub) (h : Hub) : Hub := l.foldl (fun g a => f a g) h

end Hub

/-- The row names the register of a key. -/
def RegRow.covers (r : RegRow) (k : Nat) : Bool :=
  k == r.key || (decide (r.key ≤ k) && r.stride != 0 && (k - r.key) % r.stride == 0 &&
    decide ((k - r.key) / r.stride < r.count))

/-- The row of a register. -/
def findRow (rows : List RegRow) (k : Nat) : Option RegRow := rows.find? fun r => r.covers k

/-- A code is legal in every state (R583). -/
def LegalCodes.holds (c : LegalCodes) (v : Word) : Bool :=
  c.ranges.any fun r => decide (r.1 ≤ v.toNat / 2 ^ c.lo % 2 ^ c.width) && decide (v.toNat / 2 ^ c.lo % 2 ^ c.width ≤ r.2)

/-- Every field of a value carries a code that is legal in every state. -/
def RegRow.legalValue (r : RegRow) (v : Word) : Bool := r.legal.all fun c => c.holds v

/-- A word as a mask. -/
def maskWord (n : Nat) : Word := BitVec.ofNat 32 n

/-- The RW bits of a word taken from a value. -/
def RegRow.store (r : RegRow) (old v : Word) : Word := (old &&& ~~~maskWord r.rw) ||| (v &&& maskWord r.rw)

end Sys2Proof.Machine
end

