-- ==== Sys2Proof/Machine/Events.lean ====
section
/-! DEFINITION. The event arbiter (R28–R38), the Logbook (R473–R481) and the Fault Collector's latches (R454–R469).
An event is stamped in the command that causes it: the arbiter's queues are empty between commands (log entry 8). -/

namespace Sys2Proof.Machine

open Sys2Proof.Reg

/-- The hub field of identifiers (R9, R359). -/
def Hub.hubField (h : Hub) : Nat := (h.straps.addrC.val + h.card.convoyOffset) % 16

/-- Global port identifier (R7–R11); `none` names the hub as a whole. -/
def Hub.gport (h : Hub) (p : Option (Fin 16)) : Nat :=
  h.card.siteRack % 16 * 256 + h.hubField * 16 + (match p with | some q => q.val | none => 15)

/-- Stamp one event from requester `r` (R28, R35). -/
def Hub.stamp (r : Nat) (h : Hub) : Hub :=
  { h.setWord 0xC2 (h.word 0xC2 + 1) with lastGrant := r, stamps := h.stamps + 1 }

/-- Ports that raise events in one command, in the arbiter's order: from the index after the last one granted (R32). -/
def Hub.roundRobin (h : Hub) (ps : List (Fin 16)) : List (Fin 16) :=
  ps.filter (fun p => decide (h.lastGrant < p.val)) ++ ps.filter (fun p => decide (p.val ≤ h.lastGrant))

/-- The sequence number of the event stamped last. -/
def Hub.seq (h : Hub) : Word := h.word 0xC2

/-- Events of the Logbook, their codes (R476 and chapters 15, 16). -/
inductive Ev where
  | faultLatch | clearRefused | faultCleared
  | attach | detach | accessoryIgnored | dischargeTimeout | vconnSupplyLost
  | contractNew | contractLost | detachInTransition | hardReset | softReset | partnerAlert | eprEntered | eprExited
  | notSupportedRx
  | request | grant | wait | rollback | commit | cut | prompt
  | swapCollision | swapFailed | frsRx | frsNotArmed | frsNoSource | bivouacEntered | bivouacExited
  | drainTimeout | passTrip | leakDone
  | mainsLost | sundialUnlocked | mainsReturned | sundialLocked | slotFired | sundialWrap | cycleAdopted
  | readyReached | takeover | flaskEntered | flaskExpired | shipEntered | engineHalted | checkDone
  | joined | joinRefused | left | leaderTaken | leaderLost | memberLost | handover | duplicateSeen | shareChanged
  | fwMsgRx
  | denocSession | denocNack | slotErased | imageVerified | activationScheduled | activationCancelled
  | activationSkipped | warmRestart | warmReady | reverted | rollbackRaised | raiseRefused | basecampEntered
  | firmware (num : Nat)
  deriving DecidableEq, Repr

/-- The event code (R476). -/
def Ev.code : Ev → Nat
  | .faultLatch => 0x000 | .clearRefused => 0x001 | .faultCleared => 0x002
  | .attach => 0x020 | .detach => 0x021 | .accessoryIgnored => 0x022 | .dischargeTimeout => 0x023
  | .vconnSupplyLost => 0x024
  | .contractNew => 0x040 | .contractLost => 0x041 | .detachInTransition => 0x042 | .hardReset => 0x043
  | .softReset => 0x044 | .partnerAlert => 0x045 | .eprEntered => 0x046 | .eprExited => 0x047
  | .notSupportedRx => 0x048
  | .request => 0x060 | .grant => 0x061 | .wait => 0x062 | .rollback => 0x063 | .commit => 0x064 | .cut => 0x065
  | .prompt => 0x066
  | .swapCollision => 0x080 | .swapFailed => 0x081 | .frsRx => 0x082 | .frsNotArmed => 0x083 | .frsNoSource => 0x084
  | .bivouacEntered => 0x085 | .bivouacExited => 0x086
  | .drainTimeout => 0x0A0 | .passTrip => 0x0A1 | .leakDone => 0x0A2
  | .mainsLost => 0x0C0 | .sundialUnlocked => 0x0C1 | .mainsReturned => 0x0C2 | .sundialLocked => 0x0C3
  | .slotFired => 0x0C4 | .sundialWrap => 0x0C5 | .cycleAdopted => 0x0C6
  | .readyReached => 0x0E0 | .takeover => 0x0E1 | .flaskEntered => 0x0E2 | .flaskExpired => 0x0E3
  | .shipEntered => 0x0E4 | .engineHalted => 0x0E5 | .checkDone => 0x0E6
  | .joined => 0x100 | .joinRefused => 0x101 | .left => 0x102 | .leaderTaken => 0x103 | .leaderLost => 0x104
  | .memberLost => 0x105 | .handover => 0x106 | .duplicateSeen => 0x107 | .shareChanged => 0x108 | .fwMsgRx => 0x109
  | .denocSession => 0x120 | .denocNack => 0x121 | .slotErased => 0x122 | .imageVerified => 0x123
  | .activationScheduled => 0x124 | .activationCancelled => 0x125 | .activationSkipped => 0x126
  | .warmRestart => 0x127 | .warmReady => 0x128 | .reverted => 0x129 | .rollbackRaised => 0x12A
  | .raiseRefused => 0x12B | .basecampEntered => 0x12C
  | .firmware n => 0x1E0 + n % 32

/-- Severity in force of a source (R454, R457). -/
def Hub.severity (h : Hub) (src : Nat) : Nat := (h.word (0x3008 + src / 16)).toNat / 4 ^ (src % 16) % 4

/-- One bit of a pair of LO/HI registers. -/
def Hub.pairBit (h : Hub) (lo n : Nat) : Bool := (h.word (lo + n / 32)).toNat.testBit (n % 32)

/-- Set one bit of a pair of LO/HI registers. -/
def Hub.setPairBit (lo n : Nat) (h : Hub) : Hub :=
  h.setWord (lo + n / 32) (h.word (lo + n / 32) ||| BitVec.ofNat 32 (2 ^ (n % 32)))

/-- Clear one bit of a pair of LO/HI registers. -/
def Hub.clearPairBit (lo n : Nat) (h : Hub) : Hub :=
  h.setWord (lo + n / 32) (h.word (lo + n / 32) &&& ~~~BitVec.ofNat 32 (2 ^ (n % 32)))

/-- The source is latched. -/
def Hub.latched (h : Hub) (src : Nat) : Bool := h.pairBit 0x3000 src

/-- Remove the oldest whole event from the ring (R474, R475). -/
def dropEvent : List LogEntry → List LogEntry
  | [] => []
  | [_] => []
  | _ :: c :: l => if c.cont then l else c :: l

/-- Make room for `n` entries in the ring of 256 by dropping whole events: the ring left and the events dropped. -/
def makeRoom (n : Nat) : Nat → List LogEntry → List LogEntry × Nat
  | 0, l => (l, 0)
  | fuel + 1, l =>
    if l.length + n ≤ 256 then (l, 0)
    else let r := makeRoom n fuel (dropEvent l); (r.1, r.2 + 1)

/-- Data bytes 0–11 of a continuation as its words 1–3 (R474). -/
def contWord (bytes : List Byte) (w : Nat) : Word :=
  BitVec.ofNat 32 ((bytes.getD (4 * w) 0).toNat + (bytes.getD (4 * w + 1) 0).toNat * 0x100 +
    (bytes.getD (4 * w + 2) 0).toNat * 0x10000 + (bytes.getD (4 * w + 3) 0).toNat * 0x1000000)

/-- The bytes of a number, least significant first. -/
def leBytes : Nat → Nat → List Byte
  | 0, _ => []
  | n + 1, v => BitVec.ofNat 8 v :: leBytes n (v / 256)

/-- What a Logbook entry says beside its stamp. -/
structure LogData where
  ev : Ev
  data : Nat := 0
  port : Option (Fin 16) := none
  source : Option Nat := none
  sev : Nat := 0
  cont : Option (List Byte) := none

/-- The group of an event is enabled in LOG_EN (R473, R476). -/
def Hub.logs (h : Hub) (e : Ev) : Bool := (h.word 0xA003).toNat.testBit (e.code / 32)

/-- The first word entry of an event. -/
def Hub.entryOf (h : Hub) (d : LogData) : LogEntry :=
  { w0 := h.seq, w1 := h.sun.cycle,
    w2 := BitVec.ofNat 32 (h.sun.angle.toNat * 0x10000 + h.gport d.port * 16 + (if d.port.isNone then 8 else 0) +
      (if d.cont.isSome then 4 else 0) + d.sev % 4),
    w3 := BitVec.ofNat 32 ((match d.source with | some s => s % 64 * 0x4000000 + 0x2000000 | none => 0) +
      d.ev.code % 512 * 0x10000 + d.data % 0x10000),
    cont := false }

/-- The continuation entry of an event (R474). -/
def Hub.contOf (h : Hub) (bytes : List Byte) : LogEntry :=
  { w0 := h.seq, w1 := contWord bytes 0, w2 := contWord bytes 1, w3 := contWord bytes 2, cont := true }

/-- Queue an event for the flash ring, or count it as dropped (R479, R481). -/
def Hub.persist (d : LogData) (h : Hub) : Hub :=
  if h.flashQueue.length < 16 then
    let x : Persist := ⟨h.entryOf d, d.cont.map h.contOf, h.word 0x3000, h.word 0x3001,
      BitVec.ofNat 16 (h.rd LOG_HEADER.epoch)⟩
    { h with flashQueue := h.flashQueue ++ [x] }
  else h.bump LOG_RING.dropped

/-- An event persists: a latch at or above persist_level while persist_en is 1, and SHIP_ENTERED (R479). -/
def Hub.persists (h : Hub) (d : LogData) : Bool :=
  match d.ev with
  | .faultLatch => h.is LOG_CTRL.persist_en && decide (h.rd LOG_CTRL.persist_level ≤ d.sev)
  | .shipEntered => true
  | _ => false

/-- Write an entry under the last stamp (R473, R474, R475, R629), if its group is enabled. -/
def Hub.log (d : LogData) (h : Hub) : Hub :=
  if h.logs d.ev then
    let new := match d.cont with
      | none => [h.entryOf d]
      | some b => [h.entryOf d, h.contOf b]
    let (ring, lost) := makeRoom new.length 2 h.logRing
    let h := (if h.persists d then h.persist d else h)
    let h := { h with logRing := ring ++ new }
    if lost = 0 then h
    else
      let h := h.wr LOG_LOST.lost (min (h.rd LOG_LOST.lost + lost) 0xFFFF)
      if h.is LOG_CTRL.overrun_latch && !(d.ev == .faultLatch && d.source == some 53) then
        { h with overruns := h.overruns + 1 }
      else h
  else h

/-- Stamp an event from a requester and log it. -/
def Hub.event (r : Nat) (d : LogData) (h : Hub) : Hub := (h.stamp r).log d

/-- Stamp an event of a port and log it. -/
def Hub.portEvent (p : Fin 16) (e : Ev) (data : Nat) (h : Hub) : Hub :=
  h.event p.val { ev := e, data := data, port := some p }

/-- Set a bit of a port engine's PE_EVENT; PE_STAMP takes the stamp (chapter 17). -/
def Hub.peEvent (p : Fin 16) (f : CField) (h : Hub) : Hub := (h.cwr p f 1).setWord (claimKey p 4) h.seq

/-- Change a port's Type-C state and tell its engine (R100, R442 line 4); the clock at which a port leaves an attached state
is kept (R369). -/
def Hub.setTc (p : Fin 16) (s : Nat) (h : Hub) : Hub :=
  let was := h.prd p PORT_STATUS.tc_state
  let h := if was = 4 ∨ was = 7 then { h with attachedClk := h.sun.clk } else h
  (h.pwr p PORT_STATUS.tc_state s).peEvent p PE_EVENT.tc_change

/-- What a latch was made by (R469): master ID, access type, address. -/
structure Access where
  master : Nat
  kind : Nat
  addr : Word

/-- A latch without an access (R469). -/
def Hub.noAccess (h : Hub) (src : Nat) : Access :=
  { master := 31, kind := 7,
    addr := if hs : src < 16 then BitVec.ofNat 32 (h.gport (some ⟨src, hs⟩)) else 0 }

/-- The first-error capture takes a latch, or counts it (R466, R467). -/
def Hub.capture (src : Nat) (a : Access) (h : Hub) : Hub :=
  if h.is CAP_INFO.valid then h.bump CAP_INFO.later
  else ((((((h.setWord 0x3010 0).wr CAP_INFO.valid 1).wr CAP_INFO.source src).wr CAP_INFO.master a.master).wr
    CAP_INFO.access a.kind).setWord 0x3011 a.addr).setWord 0x3012 h.sun.cycle
    |>.setWord 0x3013 h.seq |>.setWord 0x3014 (h.sun.angle.setWidth 32)

/-- Leave Watch mode (R370): Run mode resumes, the watchdogs of the supervisors, which were clock-gated, count from here
(DESIGN CHOICE, log entry 115), and a member of a rack joins again (R538). -/
def Hub.wake (h : Hub) : Hub :=
  if h.power = .watch then
    let h := { h with power := .run, supKick := Vector.replicate 2 h.sun.clk }
    if h.rd CONV_RACK.role = 2 ∨ h.rd CONV_RACK.role = 5 then h.wr CONV_RACK.role 1 else h
  else h

/-- A source latches under the last stamp (R456, R461): bits, capture, entry, and by severity the whistle, the wake and
the safe states that follow. -/
def Hub.latchShared (src : Nat) (a : Access) (data : Nat) (h : Hub) : Hub :=
  if h.part.absentSource src then h
  else
    let sev := h.severity src
    let h := ((h.setPairBit 0x3000 src).setPairBit 0x3002 src).capture src a
    let h := h.log { ev := .faultLatch, data := data,
                     port := if hs : src < 16 then some ⟨src, hs⟩ else none, source := some src, sev := sev }
    let h := if 1 ≤ sev then (h.wr HOST_STATUS.whistle_pending 1).wake else h
    if sev = 3 then
      { h with hubSafe := h.hubSafe ||| BitVec.ofNat 64 (2 ^ src),
               portSafe := if src < 16 then h.portSafe ||| BitVec.ofNat 16 (2 ^ src) else h.portSafe,
               safeDue := h.safeDue ++ h.presentPorts }
    else if hs : sev = 2 ∧ src < 16 then
      { h with portSafe := h.portSafe ||| BitVec.ofNat 16 (2 ^ src), safeDue := h.safeDue ++ [⟨src, hs.2⟩] }
    else h

/-- A source latches as an event of its own, stamped from requester 24 (R628). -/
def Hub.latch (src : Nat) (a : Access) (h : Hub) : Hub :=
  if h.part.absentSource src then h else (h.stamp 24).latchShared src a 0

/-- A source latches without an access, as an event of its own. -/
def Hub.latchMonitor (src : Nat) (h : Hub) : Hub := h.latch src (h.noAccess src)

/-- A port condition is reported (R334): the bit sets and the port's aggregate source latches under the last stamp. -/
def Hub.portFault (p : Fin 16) (f : PField) (h : Hub) : Hub :=
  let h := (h.pwr p f 1).peEvent p PE_EVENT.hw
  h.latchShared p.val (h.noAccess p.val) (2 ^ f.bits.lo)

end Sys2Proof.Machine
end

