-- ==== Sys2Proof/Machine/Ledger.lean ====
section
/-! DEFINITION. The Hamper's ledger (chapter 05): charges, node totals, run-ahead, trims, rollback, offers, ramp
positions. Every change of an entry goes through `ledgerApply`, so the node totals move by exactly the difference of
charge (R53, R199). -/

namespace Sys2Proof.Machine

open Sys2Proof.Reg

/-- Power of a voltage in 10 mV and a current in mA (R182). -/
def powerOf (v i : Nat) : Nat := (v * i + 9999) / 10000

/-- The entry indices, ascending. -/
def allEntries : List (Fin 64) := List.finRange 64

/-- The first entry, in index order, that a test accepts. -/
def findEntry (es : Vector Entry 64) (t : Entry → Bool) : Option (Fin 64) := allEntries.find? fun i => t es[i]

/-- The entry belongs to a port (an AUX entry belongs to none, R186). -/
def Entry.ofPort (e : Entry) (p : Fin 16) : Bool := e.st != .free && e.kind != .aux && e.port == p

/-- The port's entry in one of some states. -/
def portEntry (es : Vector Entry 64) (p : Fin 16) (states : List EState) : Option (Fin 64) :=
  findEntry es fun e => e.ofPort p && states.contains e.st

/-- Power of the port's entry in one of some states, 0 without one. -/
def portPower (es : Vector Entry 64) (p : Fin 16) (states : List EState) : Nat :=
  match portEntry es p states with
  | some i => es[i].power
  | none => 0

/-- Committed charge (R193). -/
def chargeC (e : Entry) : Nat := if e.st = .committed ∨ e.st = .releasing then e.power else 0

/-- Tentative charge (R193): the excess over the superseded entry. -/
def chargeT (es : Vector Entry 64) (e : Entry) : Nat :=
  if e.st = .tentative then e.power - (match e.supersedes with | some i => es[i].power | none => 0) else 0

/-- Standby charge (R193). -/
def chargeS (e : Entry) : Nat := if e.st = .standby then e.power else 0

/-- Charge of an entry in run-ahead (R193), SHADOW and prompted WAITING included. -/
def charge (es : Vector Entry 64) (e : Entry) : Nat :=
  match e.st with
  | .committed | .releasing | .standby => e.power
  | .tentative => chargeT es e
  | .shadow => e.power - max (portPower es e.port [.committed]) (portPower es e.port [.tentative])
  | .waiting => if e.prompted then e.power - portPower es e.port [.committed] else 0
  | .free => 0

/-- The entry stands under a node (R184, R186): 0–15 ports, 16–19 quads, 20 the hub. -/
def Entry.under (e : Entry) (n : Nat) : Bool :=
  if e.st = .free then false
  else if n = 20 then true
  else if e.kind = .aux then false
  else if n < 16 then e.port.val == n
  else e.port.val / 4 + 16 == n

/-- Sum of some charge over the entries under a node. -/
def sumUnder (es : Vector Entry 64) (n : Nat) (c : Entry → Nat) : Nat :=
  allEntries.foldl (fun a i => if es[i].under n then a + c es[i] else a) 0

/-- The sums that a node's totals stand for (R193). -/
def nodeSums (es : Vector Entry 64) (n : Nat) : NodeTotals :=
  ⟨sumUnder es n chargeC, sumUnder es n (chargeT es), sumUnder es n chargeS⟩

/-- A stored total after its sum moved from `old` to `new` (R199). -/
def moved (stored old new : Nat) : Nat := stored + new - old

/-- Change entries; each node total moves by the exact difference of charge (R53, R199). -/
def Ledger.apply (f : Vector Entry 64 → Vector Entry 64) (l : Ledger) : Ledger :=
  let new := f l.entries
  { l with
    entries := new
    totals := Vector.ofFn fun n =>
      let t := l.totals[n]
      let a := nodeSums l.entries n.val
      let b := nodeSums new n.val
      ⟨moved t.committed a.committed b.committed, moved t.tentative a.tentative b.tentative,
        moved t.standby a.standby b.standby⟩ }

/-- The number of FREE entries. -/
def freeEntries (es : Vector Entry 64) : Nat := (allEntries.filter fun i => es[i].st == .free).length

/-- The hub's ledger takes a new value; entries that became FREE are noticed (R206). -/
def Hub.setLedger (l : Ledger) (h : Hub) : Hub :=
  { h with ledger := l, entryFreed := h.entryFreed || decide (freeEntries h.ledger.entries < freeEntries l.entries) }

/-- Change entries of the hub's ledger. -/
def Hub.ledgerApply (f : Vector Entry 64 → Vector Entry 64) (h : Hub) : Hub := h.setLedger (h.ledger.apply f)

/-- Change one entry. -/
def Hub.setEntry (i : Fin 64) (e : Entry) (h : Hub) : Hub := h.ledgerApply fun es => es.set i e

/-- The ledger's entries. -/
def Hub.es (h : Hub) : Vector Entry 64 := h.ledger.entries

/-- The ports HUB_LIMIT follows in Bivouac mode: phase FRS or ISLAND (R258, R270). -/
def Hub.islanded (h : Hub) : Bool := h.rd BIVOUAC_STATUS.phase == 1 || h.rd BIVOUAC_STATUS.phase == 2

/-- The limit of the hub node (R184, R258). -/
def Hub.hubLimit (h : Hub) : Nat :=
  if h.islanded then min (h.rd ISLAND_BUDGET.budget) (h.rd HUB_DERATE.derate)
  else
    let a := min (h.rd HUB_CAP.hub_cap) (h.rd HUB_DERATE.derate)
    if h.is RACK_SHARE.valid then min a (h.rd RACK_SHARE.share) else a

/-- The limit of a quad node (R184); 0xFFFF sets no limit. -/
def Hub.quadLimit (h : Hub) (q : Fin 4) : Nat := min h.card.quadCap[q] (h.rd (QUAD_DERATE.derate q.val))

/-- The limit of a node by number (R186). -/
def Hub.nodeLimit (h : Hub) (n : Nat) : Nat :=
  if hp : n < 16 then (if h.present ⟨n, hp⟩ then h.prd ⟨n, hp⟩ PORT_LEDGER.port_cap else 0)
  else if hq : n < 20 then (if n - 16 < h.part.quads then h.quadLimit ⟨n - 16, by omega⟩ else 0)
  else h.hubLimit

/-- The budget in use at some quad, or at the hub, fell. -/
def budgetFell (old new : Vector Entry 64) : Bool :=
  [16, 17, 18, 19, 20].any fun n => decide (sumUnder new n (charge new) < sumUnder old n (charge old))

/-- Budget that has freed since the entries were `old` is noticed (R204). -/
def Hub.noteFreed (old : Vector Entry 64) (h : Hub) : Hub :=
  { h with freed := h.freed || budgetFell old h.ledger.entries }

/-- A node without limit: a quad at 0xFFFF (R184). -/
def Hub.unlimited (h : Hub) (n : Nat) : Bool := 16 ≤ n && n < 20 && h.nodeLimit n == 0xFFFF

/-- What others charge a node when port `p` claims (R193); an AUX claim excludes no port. -/
def Hub.usedBy (h : Hub) (n : Nat) (p : Option (Fin 16)) : Nat :=
  sumUnder h.es n fun e => if e.kind != .aux && some e.port == p then 0 else charge h.es e

/-- How much a claim of `w` lacks at a node (R193). -/
def Hub.short (h : Hub) (n w : Nat) (p : Option (Fin 16)) : Nat :=
  if h.unlimited n then 0 else w + h.usedBy n p - h.nodeLimit n

/-- Insert by a "comes before" test; for queues and rankings. -/
def insertBy {α : Type} (before : α → α → Bool) (x : α) : List α → List α
  | [] => [x]
  | y :: l => if before y x then y :: insertBy before x l else x :: y :: l

/-- Sort by a "comes before" test, stable. -/
def sortBy {α : Type} (before : α → α → Bool) : List α → List α
  | [] => []
  | x :: l => insertBy (fun a b => before a b) x (sortBy before l)

/-- A TENTATIVE entry supersedes this one. -/
def supersededNow (es : Vector Entry 64) (i : Fin 64) : Bool :=
  allEntries.any fun j => es[j].st == .tentative && es[j].supersedes == some i

/-- Entries that trim_for may lower for class `k` under a node, in its order (R196). -/
def Hub.trimOrder (h : Hub) (n k : Nat) : List (Fin 64) :=
  sortBy (fun a b => decide (h.es[b].cls < h.es[a].cls) ||
      (h.es[a].cls == h.es[b].cls && decide (h.es[b].place < h.es[a].place)))
    (allEntries.filter fun i => h.es[i].st == .committed && h.es[i].pps && h.es[i].under n && h.es[i].kind != .aux &&
      decide (k < h.es[i].cls) && !supersededNow h.es i)

/-- The planned power of an entry. -/
def planned (es : Vector Entry 64) (plan : List (Fin 64 × Nat)) (i : Fin 64) : Nat :=
  match plan.lookup i with
  | some w => w
  | none => es[i].power

/-- Lower entries in order until `short` is met (R196): the plan and what is still short. -/
def trimPass (es : Vector Entry 64) : List (Fin 64) → Nat → List (Fin 64 × Nat) → List (Fin 64 × Nat) × Nat
  | [], short, plan => (plan, short)
  | i :: l, short, plan =>
    let have_ := planned es plan i
    let take := min short (have_ - es[i].floor)
    if take = 0 then trimPass es l short plan
    else trimPass es l (short - take) ((i, have_ - take) :: plan.filter (fun x => x.1 != i))

/-- Run-ahead (R193, R196): `none` for Wait, else the trims that the grant needs. -/
def Hub.evaluate (h : Hub) (p : Fin 16) (w cls : Nat) : Option (List (Fin 64 × Nat)) :=
  if h.prd p PORT_LEDGER.port_cap < w then none
  else
    let q := 16 + p.val / 4
    let sq := h.short q w (some p)
    let sh := h.short 20 w (some p)
    if sq = 0 ∧ sh = 0 then some []
    else if h.is HAMPER_CTRL.preempt then
      let a := trimPass h.es (h.trimOrder q cls) sq []
      let got := sq - a.2
      let b := trimPass h.es (h.trimOrder 20 cls) (sh - got) a.1
      if a.2 = 0 ∧ b.2 = 0 ∧ b.1.length ≤ 8 then some b.1 else none
    else none

/-- Room without any trim, as prompts, restores and AUX claims use it (R204, R217, R196). -/
def Hub.fits (h : Hub) (p : Fin 16) (w : Nat) : Bool :=
  decide (w ≤ h.prd p PORT_LEDGER.port_cap) && h.short (16 + p.val / 4) w (some p) == 0 && h.short 20 w (some p) == 0

/-- Partner information exists (R208). -/
def Hub.partnerKnown (h : Hub) (p : Fin 16) : Bool := (h.port p).firstDone || (h.port p).idStored

/-- The port is classed as a tool (R209). -/
def Hub.isTool (h : Hub) (p : Fin 16) : Bool := h.pis p PARTNER_INFO.tool || (h.port p).burst

/-- The matched profile of a port. -/
def Hub.profileOf (h : Hub) (p : Fin 16) : Option Profile :=
  h.card.profiles.find? fun r => r.idx == h.prd p PARTNER_INFO.profile

/-- The port's class (R208). -/
def Hub.classOf (h : Hub) (p : Fin 16) : Nat :=
  match (h.profileOf p).bind Profile.cls with
  | some c => c
  | none =>
    if h.partnerKnown p then (if h.isTool p then h.rd CLASS_CFG.tool_class else h.rd CLASS_CFG.pack_class)
    else h.rd CLASS_CFG.default_class

/-- The port has a start of kind C, or one of another kind. -/
def Hub.hasStart (h : Hub) (p : Fin 16) (restore : Bool) : Bool :=
  h.ledger.ramps.any fun r => r.port == p && (r.kind == .c) == restore

/-- Take off a port's start that has not begun, that of a restore or the other one (R224). -/
def Hub.dropStart (p : Fin 16) (restore : Bool) (h : Hub) : Hub :=
  { h with ledger := { h.ledger with
      ramps := h.ledger.ramps.filter fun r => !(r.port == p && (r.kind == .c) == restore) } }

/-- Take off the start that a port's TENTATIVE entry waits for (R224); its pending raises go with it (R295). -/
def Hub.dropRaise (p : Fin 16) (h : Hub) : Hub :=
  if h.hasStart p false then
    (((h.dropStart p false).mapPort p fun s => { s with vsetHeld := none, ilimHeld := none }).pwr p
      STAGE_STATUS.vset_pending 0).pwr p STAGE_STATUS.ilim_pending 0
  else h

/-- Take off every start of a port whose entries are released (R224). -/
def Hub.dropRamp (p : Fin 16) (h : Hub) : Hub := (h.dropRaise p).dropStart p true

/-- Positions and windows are counted in absolute ticks (R221, R223). -/
def Hub.nowTick (h : Hub) : Nat := h.sun.cycle.toNat * 0x10000 + h.sun.angle.toNat

/-- Milliseconds as ticks at SUN_FREQ (R223). -/
def Hub.msTicks (h : Hub) (ms : Nat) : Nat := ms * 65536 * h.rd SUN_FREQ.freq / 100000

/-- The tick of a ramp position as cycle and angle. -/
def tickPos (t : Nat) : RampAt := .pos (BitVec.ofNat 32 (t / 0x10000)) (BitVec.ofNat 16 t)

/-- Ramp positions in `[a, b]`, at most `fuel` of them (R221). -/
def Hub.positions (h : Hub) (a b : Nat) : Nat → List Nat
  | 0 => []
  | fuel + 1 =>
    let r := h.rd RAMP_CFG.ramp_angle
    let first := if a ≤ r then r else r + (a - r + 0x7FFF) / 0x8000 * 0x8000
    if first ≤ b then first :: h.positions (first + 1) b fuel else []

/-- Starts that take a place at a position: overrides take none (R222). -/
def Hub.taken (h : Hub) (t : Nat) : List RampStart :=
  h.ledger.ramps.filter fun r => r.at_ == tickPos t && !r.override

/-- The places of a position: a change of per_half applies from the next position that had no starts (R226). -/
def Hub.perHalf (h : Hub) (t : Nat) : Nat :=
  match h.ledger.oldHalf with
  | some (n, stop) => if t < stop then n else h.rd RAMP_CFG.per_half
  | none => h.rd RAMP_CFG.per_half

/-- A place is free at a position. -/
def Hub.hasPlace (h : Hub) (t : Nat) : Bool := decide ((h.taken t).length < h.perHalf t)

/-- Priority of a kind of start (R221). -/
def RampKind.prio : RampKind → Nat
  | .a => 2 | .b => 1 | .c => 0 | .frs => 3

/-- The start that a new one of kind `k` displaces at a position (R222): lowest priority, assigned last. -/
def displaced (k : RampKind) (l : List RampStart) : Option RampStart :=
  (l.filter fun r => r.kind.prio < k.prio).foldl
    (fun best r => match best with | none => some r | some b => if r.kind.prio ≤ b.kind.prio then some r else some b)
    none

/-- The port's TENTATIVE entry shows the start that it waits for (R221, chapter 05 word 3). -/
def Hub.showStart (r : RampStart) (h : Hub) : Hub :=
  match portEntry h.es r.port [.tentative] with
  | some i => if r.kind = .c then h else h.setEntry i { h.es[i] with ramp := some r.at_, override := r.override }
  | none => h

/-- An override start is counted. -/
def Hub.countOverride (r : RampStart) (h : Hub) : Hub := if r.override then h.bump HAMPER_CNT2.overrides else h

/-- Record a start: a port has at most one of kind C and one of another kind, and the last assigned stands last (R222). -/
def Hub.recordStart (r : RampStart) (h : Hub) : Hub :=
  let h := h.dropStart r.port (r.kind == .c)
  (({ h with ledger := { h.ledger with ramps := h.ledger.ramps ++ [r] } } : Hub).countOverride r).showStart r

/-- A recorded start takes another place, and keeps its rank among those assigned (R222). -/
def Hub.replaceStart (old new : RampStart) (h : Hub) : Hub :=
  (({ h with ledger := { h.ledger with
      ramps := h.ledger.ramps.map fun r => if r = old then new else r } } : Hub).countOverride new).showStart new

/-- The last of some positions, or a core-clock start without one. -/
def lastPos (l : List Nat) : RampAt := match l.getLast? with | some t => tickPos t | none => .override

/-- Move a displaced start to the next free place in its window, else make it an override at the window's end (R222). -/
def Hub.moveStart (r : RampStart) (after : Nat) (h : Hub) : Hub :=
  let stop := match r.last with | .pos c a => c.toNat * 0x10000 + a.toNat | .override => after + 40 * 0x8000
  match (h.positions (after + 1) stop 64).find? h.hasPlace with
  | some t => h.replaceStart r { r with at_ := tickPos t }
  | none => h.replaceStart r { r with at_ := r.last, override := true }

/-- Core clocks of a time in milliseconds (R21). -/
def msClocks (ms : Nat) : Nat := ms * 300000

/-- When a start's window opens and closes, in milliseconds after it is handed over (R221); none without a window. -/
def Hub.rampWindow (h : Hub) (p : Fin 16) : RampKind → Option (Nat × Nat)
  | .a => some (25, h.prd p PD_TIMER.src_trans_max)
  | .b => some (0, 200)
  | .c => none
  | .frs => some (0, 0)

/-- Hand a start over (R221, R222): a free place in the window, else a displaced place, else an override; a start of
kind C has no window and takes free places only. -/
def Hub.assignStart (p : Fin 16) (k : RampKind) (h : Hub) : Hub :=
  let now := h.nowTick
  let w := h.rampWindow p k
  let lo := match w with | some (a, _) => now + max 1 (h.msTicks a) | none => now + 1
  let hi := match w with | some (_, b) => now + h.msTicks b | none => now + 40 * 0x8000
  let ps := h.positions lo hi 64
  let last := if k = .c then RampAt.override else lastPos ps
  let opens := match w with | some (a, _) => h.sun.clk + msClocks a | none => h.sun.clk
  let closes := w.map fun x => h.sun.clk + msClocks x.2
  let start := fun (at_ : RampAt) (override : Bool) =>
    (⟨p, k, at_, last, override, opens, closes, if k = .b then closes.getD opens else opens⟩ : RampStart)
  if k = .frs then h.recordStart (start .override true)
  else if k = .c && h.hasStart p true then h
  else
    match ps.find? h.hasPlace with
    | some t => h.recordStart (start (tickPos t) false)
    | none =>
      match ps.find? fun t => (displaced k (h.taken t)).isSome with
      | some t =>
        match displaced k (h.taken t) with
        | some d => (h.recordStart (start (tickPos t) false)).moveStart d t
        | none => h
      | none =>
        match k with
        | .a => h.recordStart (start (match ps with | t :: _ => tickPos t | [] => .override) true)
        | _ => h.recordStart (start last true)

/-- The limit that a trim set lifts at a position of kind C once the trimmed entry is gone (R299, log entry 35). -/
def Hub.liftTrim (p : Fin 16) (h : Hub) : Hub :=
  if h.prd p STAGE_ILIM.ilim_trim = 0xFFFF then h else h.assignStart p .c

/-- One undo record (R199): the claim's own entry takes its prior image; an entry that it trimmed takes back what the claim
took, if it is still the entry that was trimmed. -/
def Undo.restore (u : Undo) (es : Vector Entry 64) : Vector Entry 64 :=
  let e := es[u.idx]
  if e.owner = u.owner then es.set u.idx u.image
  else if e.st = .committed ∧ e.place = u.image.place then es.set u.idx { e with power := e.power + u.cut }
  else es

/-- Undo records of a claim, applied newest first (R198, R199), then discarded (R201). -/
def Ledger.rollback (owner : Word) (l : Ledger) : Ledger :=
  let mine := l.undo.filter fun r => r.owner == owner
  { l.apply (fun es => mine.foldl (fun es r => r.restore es) es) with
    undo := l.undo.filter fun r => r.owner != owner }

/-- The ports whose entries a claim lowered and its rollback restores (R200). -/
def Ledger.restored (owner : Word) (l : Ledger) : List (Fin 16) :=
  (l.undo.filter fun r => r.owner == owner && decide (0 < r.cut) &&
    l.entries[r.idx].st == .committed && l.entries[r.idx].place == r.image.place).map fun r => r.image.port

/-- Discard the undo records of a claim (R201). -/
def Ledger.settle (owner : Word) (l : Ledger) : Ledger := { l with undo := l.undo.filter fun r => r.owner != owner }

/-- Roll back the port's TENTATIVE entry (R198–R201, R224): images return, trims it made are restored at a position of
kind C (R200), and a confirmed entry's rollback is counted and logged under the stamp (R593, R629). -/
def Hub.rollbackTentative (p : Fin 16) (h : Hub) : Hub :=
  match portEntry h.es p [.tentative] with
  | none => h
  | some i =>
    let e := h.es[i]
    let trimmed := h.ledger.restored e.owner
    let h := (h.setLedger (h.ledger.rollback e.owner)).noteFreed h.es
    let h := (h.dropRaise p).mapPort p fun s => { s with cutKept := false }
    let h := h.each trimmed fun t => Hub.assignStart t .c
    let h := if e.spec then h
      else (h.bump HAMPER_CNT2.rollbacks).log { ev := .rollback, data := e.power, port := some p }
    h.pwr p PD_STATUS.in_transition 0

/-- Free the port's entry in one of some states; the port's answer names a freed claim as rolled back (chapter 17). -/
def Hub.freeEntry (p : Fin 16) (states : List EState) (h : Hub) : Hub :=
  match portEntry h.es p states with
  | none => h
  | some i =>
    let h := { h with ledger := h.ledger.settle h.es[i].owner }
    (h.setEntry i Entry.free).noteFreed h.es

/-- PE_ANSWER takes a new value (chapter 17). -/
def Hub.answer (p : Fin 16) (code : Nat) (entry power : Nat) (h : Hub) : Hub :=
  (((h.cwr p PE_ANSWER.valid 1).cwr p PE_ANSWER.answer code).cwr p PE_ANSWER.entry entry).cwr p PE_ANSWER.power power
    |>.peEvent p PE_EVENT.answer

/-- The port's bit of full_mask clears (R206). -/
def Hub.unmaskFull (p : Fin 16) (h : Hub) : Hub :=
  h.wr HAMPER_STATUS.full_mask (h.rd HAMPER_STATUS.full_mask &&& (0xFFFF - 2 ^ p.val))

/-- Roll back or free every entry of a port (R119, R124, R175): SHADOW stays if `keepShadow`. COMMITTED passes through
RELEASING to FREE, since the pass switch opens in the same step (R190). -/
def Hub.releaseEntries (p : Fin 16) (keepShadow : Bool) (h : Hub) : Hub :=
  let had := portEntry h.es p [.tentative, .waiting]
  let h := h.rollbackTentative p
  let h := match had with | some i => h.answer p 4 i.val 0 | none => h
  let h := h.freeEntry p [.waiting]
  let h := h.freeEntry p [.standby]
  let h := h.freeEntry p [.committed]
  let h := h.freeEntry p [.releasing]
  let h := if keepShadow then h else h.freeEntry p [.shadow]
  ((h.dropRamp p).liftTrim p).unmaskFull p

/-- The guarantee of a port: the lower of the guarantee of the policy and its port_cap (R210). -/
def Hub.guaranteeOf (h : Hub) (p : Fin 16) : Nat := min (h.rd HAMPER_POLICY.guarantee) (h.prd p PORT_LEDGER.port_cap)

/-- Power of a PDO at its highest voltage. -/
def pdoPower (d : Pdo) : Nat := if d.kind = .avs ∨ d.kind = .battery then d.pdp else powerOf d.vmax d.amp

/-- demand(p) (R211). -/
def Hub.demand (h : Hub) (p : Fin 16) : Nat :=
  let s := (h.port p).partnerSink
  min (h.prd p PORT_LEDGER.port_cap)
    (if s.isEmpty then portPower h.es p [.shadow] else s.foldl (fun a d => max a (pdoPower d)) 0)

/-- Attached source ports (R210). -/
def Hub.sourcePorts (h : Hub) : List (Fin 16) := h.presentPorts.filter fun p => h.prd p PORT_STATUS.tc_state == 7

/-- AUX entries' power. -/
def Hub.auxPower (h : Hub) : Nat :=
  allEntries.foldl (fun a i => if h.es[i].st != .free && h.es[i].kind == .aux then a + h.es[i].power else a) 0

/-- Offers being computed: what each port is given. -/
abbrev Gives := Vector Nat 16

/-- What the ports of a quad are given. -/
def quadGiven (g : Gives) (q : Nat) : Nat :=
  allPorts.foldl (fun a p => if p.val / 4 = q then a + g[p] else a) 0

/-- Room for one more unit at the port and its quad (R210). -/
def Hub.roomFor (h : Hub) (g : Gives) (p : Fin 16) : Bool :=
  decide (g[p] < h.demand p) && decide (g[p] < h.prd p PORT_LEDGER.port_cap) &&
    (h.unlimited (16 + p.val / 4) || decide (quadGiven g (p.val / 4) < h.nodeLimit (16 + p.val / 4)))

/-- One class's spare, a unit at a time to the smallest give (R210); `fuel` bounds the units. -/
def Hub.fillFair (h : Hub) (ports : List (Fin 16)) : Nat → Gives × Nat → Gives × Nat
  | 0, s => s
  | fuel + 1, (g, spare) =>
    if spare = 0 then (g, spare)
    else
      match (ports.filter (h.roomFor g)).foldl
          (fun (best : Option (Fin 16)) p =>
            match best with | none => some p | some b => if g[p] < g[b] then some p else some b) none with
      | none => (g, spare)
      | some p => h.fillFair ports fuel (g.set p (g[p] + 1), spare - 1)

/-- One class's spare given to whole ports in attach order (R213). -/
def Hub.fillWhole (h : Hub) : List (Fin 16) → Nat → Gives × Nat → Gives × Nat
  | [], _, s => s
  | p :: l, fuel, s => h.fillWhole l fuel (h.fillFair [p] fuel s)

/-- The offers of R210–R213. The guarantees are met one after another, and what a port without its guarantee takes under R212
counts before the next port's is tried (DESIGN CHOICE, log entry 110). -/
def Hub.offers (h : Hub) : Gives :=
  let byAttach := sortBy (fun a b => decide ((h.port a).attachNo < (h.port b).attachNo)) h.sourcePorts
  let k := fun p => if h.is HAMPER_CTRL.tool_first then h.classOf p else 0
  let byClass := sortBy (fun a b => decide (k a < k b)) byAttach
  let avail := h.hubLimit - h.ledger.totals[20].standby - h.auxPower
  let base := byClass.foldl (fun (s : Gives × Nat) p =>
      let want := min (h.guaranteeOf p) (h.demand p)
      let room := if h.unlimited (16 + p.val / 4) then s.2
        else min s.2 (h.nodeLimit (16 + p.val / 4) - quadGiven s.1 (p.val / 4))
      let give := if want ≤ room then want else min 25 (h.demand p)
      (s.1.set p give, s.2 - give)) (Vector.replicate 16 0, avail)
  let fill := fun (s : Gives × Nat) (c : Nat) =>
    let ps := byAttach.filter fun p => k p == c
    if h.is HAMPER_CTRL.fair_share then h.fillFair ps s.2 s else h.fillWhole ps s.2 s
  (fill (fill (fill (fill base 0) 1) 2) 3).1

/-- The port's offer (R210): computed from what holds now, so it follows every change at once (DESIGN CHOICE, log entry 110). -/
def Hub.offer (h : Hub) (p : Fin 16) : Nat := h.offers[p]

/-- Claims refused in Flask mode: raises, implicit and STANDBY claims (R391). -/
def Hub.flaskRefuses (h : Hub) (raise : Bool) (kind : EKind) (standby : Bool) : Bool :=
  h.is ENG_STATUS.flask && (raise || kind == .implicit || standby)

/-- The claim of a port as the Hamper sees it. -/
structure Claim where
  kind : EKind
  power : Nat
  raise : Bool := false
  pps : Bool := false
  spec : Bool := false
  standby : Bool := false
  volt : Nat := 0

/-- The floor of a PPS or AVS entry (R216). -/
def Hub.floorFor (h : Hub) (p : Fin 16) (c : Claim) : Nat :=
  if c.pps then max (h.guaranteeOf p) (powerOf c.volt (h.port p).minAmp) else 0

/-- The loop's limit that a trimmed entry leaves, in mA (R197). -/
def trimLimit (w volt : Nat) : Nat := if volt = 0 then 0xFFFF else min (w * 10000 / volt) 0xFFFF

/-- A claim trims an entry (R196, R197): an undo record is written, the loop's limit falls with the entry's power, and the
Alert of R142 is owed once the claim stands. -/
def Hub.trimFor (owner : Word) (i : Fin 64) (w : Nat) (h : Hub) : Hub :=
  let e := h.es[i]
  let h := h.pwr e.port STAGE_ILIM.ilim_trim (trimLimit w e.volt)
  let h := { h with ledger := { h.ledger with undo := ⟨owner, i, e, e.power - w⟩ :: h.ledger.undo } }
  h.setEntry i { e with power := w }

/-- A cut or a restore moves a trimmed entry's power, and no earlier trim of it is taken back any more; a fall frees
budget (R204, R214, R217). -/
def Hub.trimEntry (i : Fin 64) (w : Nat) (h : Hub) : Hub :=
  let e := h.es[i]
  let h := h.pwr e.port STAGE_ILIM.ilim_trim (trimLimit w e.volt)
  let h := { h with ledger := { h.ledger with
    undo := h.ledger.undo.map fun (u : Undo) => if u.idx = i then { u with cut := 0 } else u } }
  (h.setEntry i { e with power := w }).noteFreed h.es

/-- The first implicit claim of an attach makes the SHADOW entry (R190), left out when the ledger is full (R225). -/
def Hub.makeShadow (p : Fin 16) (h : Hub) : Hub :=
  if (h.port p).shadowMade then h
  else
    let h := h.mapPort p fun s => { s with shadowMade := true }
    match findEntry h.es (fun e => e.st == EState.free) with
    | none => h
    | some i =>
      h.setEntry i { Entry.free with
        st := EState.shadow, kind := EKind.forecast, port := p, cls := h.classOf p, tool := h.isTool p,
        power := min (h.rd HAMPER_POLICY.forecast) (h.prd p PORT_LEDGER.port_cap), seq := h.seq, owner := h.seq,
        place := h.stamps }

/-- No entry is FREE (R225): the claim is refused, source 30 latches under the claim's stamp; a speculative claim is only
refused, since it may yet be discarded without a trace (R52), and the Request's own claim follows at EOP. -/
def Hub.claimFull (p : Fin 16) (c : Claim) (h : Hub) : Hub :=
  if c.spec then h.answer p 3 0 c.power
  else
    let h := h.wr HAMPER_STATUS.full_mask (h.rd HAMPER_STATUS.full_mask ||| 2 ^ p.val)
    let h := (h.bump HAMPER_CNT2.full).bump HAMPER_CNT1.waits
    (h.answer p 3 0 c.power).latchShared 30 { master := 23, kind := 3, addr := 0 } 0

/-- The entry that a claim takes (R190): that of its port that waits, in place, or the lowest FREE one; a STANDBY claim
leaves an implicit claim that waits alone. -/
def Hub.claimSlot (h : Hub) (p : Fin 16) (standby : Bool) : Option (Fin 64) :=
  match portEntry h.es p [.waiting] with
  | some i => if standby && h.es[i].kind == .implicit then findEntry h.es fun e => e.st == EState.free else some i
  | none => findEntry h.es fun e => e.st == EState.free

/-- What every entry that a claim makes holds, whatever the answer. -/
def Hub.claimEntry (h : Hub) (p : Fin 16) (c : Claim) : Entry :=
  { Entry.free with kind := c.kind, port := p, cls := h.classOf p, raise := c.raise, tool := h.isTool p, spec := c.spec,
                    power := c.power, seq := h.seq, owner := h.seq, pps := c.pps, volt := c.volt,
                    floor := h.floorFor p c, place := h.stamps }

/-- A claim is granted: its trims are written, its entry is TENTATIVE, or STANDBY at once. -/
def Hub.grantClaim (p : Fin 16) (c : Claim) (i : Fin 64) (trims : List (Fin 64 × Nat)) (h : Hub) : Hub :=
  let o := h.seq
  let e := h.claimEntry p c
  let h := h.each trims fun t => Hub.trimFor o t.1 t.2
  let h := h.setEntry i { e with
    st := if c.standby then EState.standby else EState.tentative,
    supersedes := if c.standby then none else portEntry h.es p [.committed] }
  let h := if c.spec then h
    else { (h.bump HAMPER_CNT1.grants) with alertsDue := h.alertsDue ++ trims.map fun t => h.es[t.1].port }
  let h := if c.standby then { h with ledger := h.ledger.settle o } else h
  h.answer p 1 i.val c.power

/-- A claim is refused: its entry waits, at the place of the entry that waited before (R203); a speculative one keeps what
was prompted until it is confirmed (R205). -/
def Hub.refuseClaim (p : Fin 16) (c : Claim) (i : Fin 64) (prior : Entry) (h : Hub) : Hub :=
  let e := h.claimEntry p c
  let again := decide (prior.st = .waiting)
  let h := h.setEntry i { e with
    st := EState.waiting, seq := if again then prior.seq else e.seq, place := if again then prior.place else e.place,
    prompted := c.spec && prior.prompted }
  let h := if c.spec then h else { (h.bump HAMPER_CNT1.waits) with ledger := h.ledger.settle h.seq }
  h.answer p 2 i.val c.power

/-- Judge a claim at the last stamp and make its entry (R190–R196, R203): a TENTATIVE entry of the port is rolled back
first; a prompt's hold ends with a claim that is not speculative, which frees budget (R204, R205). -/
def Hub.judge (p : Fin 16) (c : Claim) (h : Hub) : Hub :=
  let was := h
  let h := if c.standby then h else h.rollbackTentative p
  match h.claimSlot p c.standby with
  | none => h.claimFull p c
  | some i =>
    let verdict := if h.flaskRefuses c.raise c.kind c.standby then none else h.evaluate p c.power (h.classOf p)
    let prior := { h.es[i] with prompted := c.spec && h.es[i].prompted }
    let h := if c.spec then h else h.unmaskFull p
    let h := { h with freed := was.freed, ledger := { h.ledger with undo := ⟨h.seq, i, prior, 0⟩ :: h.ledger.undo } }
    let h := match verdict with
      | some trims => h.grantClaim p c i trims
      | none => h.refuseClaim p c i prior
    h.noteFreed was.es

/-- A claim of a port: stamped, judged, and, unless speculative, logged with its answer (R592, R629). -/
def Hub.claim (p : Fin 16) (c : Claim) (h : Hub) : Hub :=
  let h := h.stamp p.val
  let h := if c.spec then h else h.log { ev := .request, data := c.power, port := some p }
  let h := if c.kind = .implicit then h.makeShadow p else h
  let h := h.judge p c
  if c.spec then h
  else if h.crd p PE_ANSWER.answer = 1 then h.log { ev := .grant, data := c.power, port := some p }
  else h.log { ev := .wait, data := c.power, port := some p }

/-- The port's TENTATIVE entry commits (R190, R201); the entry it supersedes goes FREE; `first` re-levels SHADOW at the
first explicit contract (R190). Logged under the stamp (R629). -/
def Hub.commitPort (p : Fin 16) (explicit : Bool) (h : Hub) : Hub :=
  match portEntry h.es p [.tentative] with
  | none => h
  | some i =>
    let e := h.es[i]
    let was := h.es
    let h := h.ledgerApply fun es =>
      let es := match e.supersedes with | some j => es.set j Entry.free | none => es
      es.set i { e with st := .committed, supersedes := none, spec := false, ramp := none, override := false }
    let h := { h with ledger := h.ledger.settle e.owner }
    let h := (h.dropStart p true).liftTrim p
    let h := h.log { ev := .commit, data := e.power, port := some p }
    let h := if explicit && !(h.port p).firstDone then
        let h := h.mapPort p fun s => { s with firstDone := true }
        match portEntry h.es p [.shadow] with
        | some j => h.setEntry j { h.es[j] with power := h.guaranteeOf p }
        | none => h
      else h
    h.noteFreed was

end Sys2Proof.Machine
end

