-- ==== Sys2Proof/Machine/Loop.lean ====
section
/-! DEFINITION. The digital loops of a stage as arithmetic (chapter 07): the carrier, the split of the ratio between the legs,
the PWM levels, and one update of the outer and the inner loop. Ratios, duties and gains are Q1.15 numbers held as
integers in units of 1/32768; voltages are in 10 mV, currents in mA (log entry 94). -/

namespace Sys2Proof.Machine

/-- 1.0 in Q1.15. -/
abbrev one15 : Int := 32768

/-- Q1.15 with saturation (chapter 07, "The loops"). -/
def sat15 (x : Int) : Int := max (-32768) (min 32767 x)

/-- A product of two Q1.15 numbers, rounded down (log entry 94). -/
def mul15 (a b : Int) : Int := a * b / 32768

/-- A number kept between two limits. -/
def clampTo (lo hi x : Int) : Int := max lo (min hi x)

/-- A current in units of I_fs = 75 mV / rsense, with rsense in 0.1 mΩ (chapter 07, "Sampling"). -/
def ampQ (rsense : Nat) (mA : Int) : Int := mA * rsense * 32768 / 750000

/-- A conversion ratio; by a voltage that reads 0 it is a value the spec does not state (log entry 94). -/
def ratioQ (a b : Nat) : Int := if b = 0 then (Config.ratioByZero a : Int) else (a * 32768 / b : Nat)

/-! ### Carriers (R280) -/

/-- Edge steps of a carrier period, 32 to a core clock: 1 / fsw to the nearest step. -/
def periodLen (fsw : Nat) : Nat := (9600000 + fsw / 2) / fsw

/-- Edge steps since a carrier period of port `n` began at base time n × T / 16, one period added (R280). -/
def carrierSteps (len n clk : Nat) : Nat := 32 * clk + len - n * len / 16

/-- The number of the carrier period of port `n` that runs at a core clock. -/
def periodAt (len n clk : Nat) : Nat := carrierSteps len n clk / len

/-! ### The ratio and the legs (R272, R276) -/

/-- The limits of m in a mode: the reach of R272 for the topology, and d_A ≤ 1 in buck mode (log entry 94). -/
def ratioLimits (topology set : Nat) (rev : Bool) : Int × Int :=
  let top : Int := if rev then 327680 else 81920
  match topology, rev with
  | 1, false => (0, 27853)
  | 2, false => (34406, 327680)
  | 2, true => (0, 27853)
  | _, _ => match set with
    | 0 => (0, 27853)
    | 2 => (34406, top)
    | _ => (0, top)

/-- The split of m between the leg at the input and the leg at the output (table of R276): d_A and d_B. -/
def splitRatio (set : Nat) (m : Int) : Int × Int :=
  match set with
  | 0 => (m, 0)
  | 1 =>
    let b := if m ≤ 0 then 4915 else max 4915 (32768 - 27853 * 32768 / m)
    (mul15 m (32768 - b), b)
  | 2 => (32768, if m ≤ 0 then 0 else 32768 - 32768 * 32768 / m)
  | _ => (0, 0)

/-- The output current: the sample × (1 − d_B) (R283). -/
def outCurrent (sense dB : Int) : Int := sense * (32768 - dB) / 32768

/-- The pass current I_out − C_node × dVCx/dt (R323), in mA: node capacitance in 1 µF, VCx in 10 mV at two conversions `len`
edge steps apart. -/
def passCurrent (iOut : Int) (cap : Nat) (node last : Int) (len : Nat) : Int :=
  iOut - (cap : Int) * (node - last) * 96000 / len

/-- The drain-source voltage times the pass current (R328): both by magnitude, so either direction heats (R327). -/
def soaPower (vds iPass : Int) : Nat := vds.natAbs * iPass.natAbs

/-- One step of the SOA accumulator of 40 bits (R328). -/
def soaNext (e p shift : Nat) : Nat := min (2 ^ 40 - 1) (e + p - e / 2 ^ shift)

/-! ### PWM levels (R273, R275, R278, R279) -/

/-- A logic-level output. -/
inductive Level where
  | low
  | high
  | highZ
  deriving DecidableEq, Repr

/-- The four PWM outputs of a port. -/
structure Pwm where
  ha : Level
  la : Level
  hb : Level
  lb : Level
  deriving DecidableEq, Repr

/-- All four outputs low (R275). -/
def Pwm.off : Pwm := ⟨.low, .low, .low, .low⟩

/-- High impedance, pulled down by 100 kΩ (R275). -/
def Pwm.floating : Pwm := ⟨.highZ, .highZ, .highZ, .highZ⟩

/-- A level from a condition. -/
def levelIf (c : Bool) : Level := if c then .high else .low

/-- The two switches of a leg at a moment of a carrier period (R278, R279): `duty` is the high side's share, its pulse stands
in the middle of the period, a pulse under 60 ns is skipped, a high side held on lets its low side pulse for 150 ns in every
eighth period, and the switch that turns on gives up the dead time (log entry 94). -/
def legLevels (len k x dead : Nat) (duty : Int) : Level × Level :=
  let on := (duty * len / 32768).toNat
  let rise := (len - on) / 2
  let fall := rise + on
  if on < 576 then (.low, .high)
  else if len < on + 576 then
    if k % 8 = 0 then (levelIf (decide (dead + 1440 + dead ≤ x)), levelIf (decide (dead ≤ x) && decide (x < dead + 1440)))
    else (.high, .low)
  else (levelIf (decide (rise + dead ≤ x) && decide (x < fall)), levelIf (decide (x < rise) || decide (fall + dead ≤ x)))

/-! ### The loops -/

/-- What an update of the loops works from. -/
structure LoopIn where
  topology : Nat
  set : Nat
  rev : Bool
  draining : Bool
  vnow : Nat
  node : Nat
  bus : Nat
  vhub : Nat
  target : Int
  floor : Nat
  sense : Int
  limit : Nat
  rsense : Nat
  trim : Nat
  kvp : Int
  kvi : Int
  kip : Int
  kii : Int

/-- m_ff (R287): vnow / VHUB forward, VHUB target / VBUS in reverse. -/
def LoopIn.forward (x : LoopIn) : Int := if x.rev then ratioQ x.target.toNat x.bus else ratioQ x.vnow x.vhub

/-- v_eff (R287): the input's voltage in buck mode, the output's in boost mode, the larger in buck-boost mode. -/
def LoopIn.vEff (x : LoopIn) : Nat :=
  let vin := if x.rev then x.bus else x.vhub
  let vout := if x.rev then x.target.toNat else x.vnow
  match x.set with
  | 0 => vin
  | 2 => vout
  | _ => max vin vout

/-- A correction of the ratio, scaled by 48 V / v_eff. -/
def LoopIn.scale (x : LoopIn) (c : Int) : Int :=
  if x.vEff = 0 then (Config.ratioByZero c.natAbs : Int) else c * 4800 / x.vEff

/-- d_A and d_B at the ratio the loop holds. -/
def LoopIn.duties (x : LoopIn) (m : Int) : Int × Int := splitRatio x.set m

/-- i_lo (R288, R307): −2.00 A, −5.50 A in DRAIN and EQUALISE, 0 in REVERSE. -/
def LoopIn.lo (x : LoopIn) : Int := if x.rev then 0 else ampQ x.rsense (if x.draining then -5500 else -2000)

/-- i_hi (R288, R307): ilim_eff / (1 − d_B) forward, ilim_eff in REVERSE. -/
def LoopIn.hi (x : LoopIn) (m : Int) : Int :=
  let i := ampQ x.rsense x.limit
  if x.rev then i else sat15 (i * 32768 / (32768 - (x.duties m).2))

/-- The voltage error in units of 1 V (R307 in reverse mode): the trim is in 0.1 mV. -/
def LoopIn.eV (x : LoopIn) : Int :=
  if x.rev then sat15 ((x.target - x.vhub) * 32768 / 100)
  else sat15 (((x.vnow : Int) * 100 + x.trim - (x.node : Int) * 100) * 32768 / 10000)

/-- The inductor current towards the output, in units of I_fs. -/
def LoopIn.sample (x : LoopIn) : Int := sat15 (ampQ x.rsense (if x.rev then -x.sense else x.sense))

/-- The reference lowered as far as VBUS needs (R308): by how much is a value the spec leaves to the loop. -/
def LoopIn.keepBus (x : LoopIn) (i : Int) : Int :=
  if x.rev && decide (x.bus < x.floor) then clampTo 0 i (i - (Config.revLowering (x.floor - x.bus) : Int)) else i

/-- One outer update. -/
def Loop.outer (x : LoopIn) (l : Loop) : Loop :=
  let hi := x.hi l.m
  let iv := clampTo x.lo hi (l.iv + mul15 x.kvi x.eV)
  { l with iv := iv, eV := x.eV, iRef := x.keepBus (clampTo x.lo hi (mul15 x.kvp x.eV + iv)) }

/-- m before its limits, from the inner integrator and the current error. -/
def LoopIn.ratio (x : LoopIn) (ii eI : Int) : Int := x.forward + x.scale (mul15 x.kip eI + ii)

/-- One inner update. -/
def Loop.inner (x : LoopIn) (l : Loop) : Loop :=
  let eI := sat15 (l.iRef - x.sample)
  let ii := clampTo (-16384) 16384 (l.ii + mul15 x.kii eI)
  let lim := ratioLimits x.topology x.set x.rev
  let m := clampTo lim.1 lim.2 (x.ratio ii eI)
  { l with ii := ii, eI := eI, m := m, sat := decide (m = lim.1) || decide (m = lim.2) }

/-- The inner integrator reloaded at a change of mode so that m is unchanged; the outer integrator is kept (R277). -/
def Loop.reload (x : LoopIn) (l : Loop) : Loop :=
  { l with ii := clampTo (-16384) 16384 ((l.m - x.forward) * x.vEff / 4800 - mul15 x.kip l.eI) }

/-- The loop of a stage that starts, or is armed for a start (R311): no error, and the ratio of its target. -/
def Loop.preload (x : LoopIn) (l : Loop) : Loop :=
  { l with iv := 0, ii := 0, iRef := 0, eV := 0, eI := 0, m := x.forward, sat := false }

end Sys2Proof.Machine
end

