-- ==== Sys2Proof/Machine/Stage.lean ====
section
/-! DEFINITION. Operations of a port's hardware that the meanings share: timers, the power stage and its targets
(chapter 07), discharge, the pass switch, trips and the leakage probe (chapter 08). -/

namespace Sys2Proof.Machine

open Sys2Proof.Reg

/-! ### Timers -/

/-- A timer of a port runs. -/
def Hub.runs (h : Hub) (p : Fin 16) (t : Tmr) : Bool := (h.port p).timers.any fun x => x.1 == t

/-- Start a timer, or start it again, with a length in microseconds: a length is read at the start (R104). -/
def Hub.start (p : Fin 16) (t : Tmr) (len : Nat) (h : Hub) : Hub :=
  h.mapPort p fun s => { s with timers := (t, len) :: s.timers.filter fun x => x.1 != t }

/-- Stop a timer. -/
def Hub.stop (p : Fin 16) (t : Tmr) (h : Hub) : Hub :=
  h.mapPort p fun s => { s with timers := s.timers.filter fun x => x.1 != t }

/-- Stop a port's timers but for some. -/
def Hub.stopAllBut (p : Fin 16) (keep : List Tmr) (h : Hub) : Hub :=
  h.mapPort p fun s => { s with timers := s.timers.filter fun x => keep.contains x.1 }

/-- An expiry of a running timer takes effect once: the timer stops, then `f` acts; without it nothing happens. -/
def Hub.expire (p : Fin 16) (t : Tmr) (f : Hub → Hub) (h : Hub) : Hub :=
  if h.present p && h.runs p t then f (h.stop p t) else h

/-! ### Type-C state codes (R100) -/

abbrev tcOff : Nat := 0
abbrev tcDeadBattery : Nat := 1
abbrev tcUnattachedSnk : Nat := 2
abbrev tcAttachWaitSnk : Nat := 3
abbrev tcAttachedSnk : Nat := 4
abbrev tcUnattachedSrc : Nat := 5
abbrev tcAttachWaitSrc : Nat := 6
abbrev tcAttachedSrc : Nat := 7
abbrev tcTrySrc : Nat := 8
abbrev tcTryWaitSnk : Nat := 9
abbrev tcDischarge : Nat := 10
abbrev tcRest : Nat := 11
abbrev tcWatch : Nat := 12

/-- The port's Type-C state. -/
def Hub.tc (h : Hub) (p : Fin 16) : Nat := h.prd p PORT_STATUS.tc_state

/-- The port is attached. -/
def Hub.attached (h : Hub) (p : Fin 16) : Bool := h.tc p == tcAttachedSrc || h.tc p == tcAttachedSnk

/-! ### The stage -/

abbrev stOff : Nat := 0
abbrev stDrain : Nat := 1
abbrev stRamp : Nat := 2
abbrev stRegulate : Nat := 3
abbrev stLimit : Nat := 4
abbrev stEqualise : Nat := 5
abbrev stReverse : Nat := 6
abbrev stFrsArmed : Nat := 7

abbrev modeOff : Nat := 0
abbrev modeForward : Nat := 1
abbrev modeReverse : Nat := 2

/-- The stage's state (STAGE_STATUS.state). -/
def Hub.stage (h : Hub) (p : Fin 16) : Nat := h.prd p STAGE_STATUS.state

/-- The stage regulates forward: RAMP, REGULATE or CURRENT_LIMIT. -/
def Hub.forward (h : Hub) (p : Fin 16) : Bool := stRamp ≤ h.stage p && h.stage p ≤ stLimit

/-- A PORT_SAFE fault of the port remains latched (R26, R316). -/
def Hub.heldSafe (h : Hub) (p : Fin 16) : Bool := h.portSafe.getLsbD p.val

/-- 10 mV moved in a time of core clocks at a slew in 10 mV per ms (300 MHz, R60). -/
def slewed (rate clocks : Nat) : Nat := rate * clocks / 300000

/-- The rate at which vnow moves towards a goal: slew_up or slew_down, or the 5 V/ms of the leakage probe (R340). -/
def Hub.vRate (h : Hub) (p : Fin 16) (rises : Bool) : Nat :=
  if h.prd p PASS_STATUS.leak_result = 1 then 500
  else if rises then h.prd p STAGE_SLEW.slew_up else h.prd p STAGE_SLEW.slew_down

/-- Where a slew stands after a time of core clocks. -/
def slewPoint (start goal rate clocks : Nat) : Nat :=
  if start ≤ goal then min goal (start + slewed rate clocks) else max goal (start - slewed rate clocks)

/-- The target that the outer loop uses now (chapter 07, "Targets, ramps and limits"): it moves from where it stood
when the target last changed towards vset_eff at slew_up or slew_down; the leakage probe moves it at 5 V/ms (R340). -/
def Hub.vnow (h : Hub) (p : Fin 16) : Nat :=
  let s := h.port p
  slewPoint s.vFrom s.vsetEff (h.vRate p (decide (s.vFrom ≤ s.vsetEff))) (h.sun.clk - s.vClk)

/-- The highest vnow that an ended stretch had from a core clock on. -/
def Slew.high (x : Slew) (since : Nat) : Nat :=
  max (slewPoint x.start x.goal x.rate (max since x.clk - x.clk)) (slewPoint x.start x.goal x.rate (x.stop - x.clk))

/-- The core clock 20 ms ago (R303). -/
def Hub.clk20ms (h : Hub) : Nat := h.sun.clk - 6000000

/-- The highest vnow of the last 20 ms (R303). -/
def Hub.vHigh (h : Hub) (p : Fin 16) : Nat :=
  let s := h.port p
  let since := max h.clk20ms s.vClk
  let now := max (h.vnow p)
    (slewPoint s.vFrom s.vsetEff (h.vRate p (decide (s.vFrom ≤ s.vsetEff))) (since - s.vClk))
  s.vPast.foldl (fun a x => if h.clk20ms < x.stop then max a (x.high h.clk20ms) else a) now

/-- vnow starts a new stretch, from `start` towards `goal`; the one that ends is kept for 20 ms (R303). -/
def Hub.moveTo (p : Fin 16) (start goal : Nat) (h : Hub) : Hub :=
  let s := h.port p
  let old : Slew := ⟨s.vFrom, s.vsetEff, h.vRate p (decide (s.vFrom ≤ s.vsetEff)), s.vClk, h.sun.clk⟩
  let past := (old :: s.vPast).filter fun x => decide (h.clk20ms < x.stop) && decide (0 < max x.start x.goal)
  h.mapPort p fun s => { s with vPast := past, vFrom := start, vClk := h.sun.clk, vsetEff := goal }

/-- The limit in force (R299). -/
def Hub.ilimEff (h : Hub) (p : Fin 16) : Nat := min (h.port p).ilimEff (h.prd p STAGE_ILIM.ilim_trim)

/-- The modulation mode, as a coefficient set, that the target ratio selects from the set in use (R276, R289). -/
def modulation (now m vhub : Nat) : Nat :=
  let r := m * 100
  match now with
  | 0 => if vhub * 85 < r then (if vhub * 120 < r then 2 else 1) else 0
  | 1 => if r < vhub * 80 then 0 else if vhub * 120 < r then 2 else 1
  | 2 => if r < vhub * 115 then (if r < vhub * 80 then 0 else 1) else 2
  | _ => if r < vhub * 80 then 0 else if vhub * 120 < r then 2 else 1

/-- The stage runs in reverse: VBUS is its input and VHUB its output (R279, R307). -/
def Hub.reversed (h : Hub) (p : Fin 16) : Bool := h.stage p == stReverse

/-- The coefficient set in use: 3 while OFF (STAGE_STATUS.set) and on a pass-only stage, which has no loop; by vnow / VHUB, in
REVERSE by VHUB / VBUS (R276, R279, R289). A buck-only stage works as a boost in REVERSE, a boost-only one as a buck (R272). -/
def Hub.pickSet (h : Hub) (p : Fin 16) : Nat :=
  let st := h.stage p
  if st = stOff ∨ st = stFrsArmed then 3
  else
    match h.prd p STAGE_CFG.topology with
    | 1 => if h.reversed p then 2 else 0
    | 2 => if h.reversed p then 0 else 2
    | 3 => 3
    | _ =>
      if h.prd p STAGE_CTRL.force_set ≠ 0 then h.prd p STAGE_CTRL.force_set - 1
      else
        let vhub := h.qrd (Hub.quadOf p) HK_VHUB.vhub
        let now := h.prd p STAGE_STATUS.set
        if h.reversed p then modulation now vhub (h.port p).hkBus
        else modulation now (h.vnow p) vhub

/-- The trim term, 0 but with drop_comp in forward mode with the pass switch on (R291), in 0.1 mV. -/
def Hub.trimNow (h : Hub) (p : Fin 16) : Nat :=
  if h.pis p STAGE_CTRL.drop_comp && h.forward p && h.prd p PASS_STATUS.state == 2 then (h.port p).loop.trim else 0

/-- A signed half of a coefficient register (R289). -/
def Hub.coef (h : Hub) (p : Fin 16) (w : Nat) (high : Bool) : Int :=
  let v := h.word (portKey p w)
  (if high then v.extractLsb' 16 16 else v.extractLsb' 0 16).toInt

/-- The current limit that the loop holds: in REVERSE it rises from 0 in 30 µs (R309 step 4). -/
def Hub.loopLimit (h : Hub) (p : Fin 16) : Nat :=
  if h.reversed p then h.ilimEff p * min 9000 (h.sun.clk - (h.port p).loop.since) / 9000 else h.ilimEff p

/-- What the loops of a port work from at this moment (R287–R291, R307, R308). -/
def Hub.loopIn (h : Hub) (p : Fin 16) : LoopIn :=
  let s := h.port p
  let set := h.prd p STAGE_STATUS.set
  let iIn := (-s.loop.iOut).toNat
  let volt := if h.prd p PD_STATUS.contract = 0 then 500 else h.prd p CONTRACT_VI.volt
  { topology := h.prd p STAGE_CFG.topology, set := set, rev := h.reversed p,
    draining := h.stage p == stDrain || h.stage p == stEqualise,
    vnow := h.vnow p, node := s.pins.node.toNat, bus := s.hkBus,
    vhub := h.qrd (Hub.quadOf p) HK_VHUB.vhub,
    target := (h.prd p STAGE_REV.vhub_rev : Int) - h.prd p STAGE_REV.droop * iIn / 1000,
    floor := h.prd p STAGE_REV.rev_vmin * volt / 100,
    sense := s.pins.sense.toInt, limit := h.loopLimit p, rsense := h.card.ports[p].rsense, trim := h.trimNow p,
    kvp := h.coef p (0x32 + 2 * set) true, kvi := h.coef p (0x32 + 2 * set) false,
    kip := h.coef p (0x33 + 2 * set) true, kii := h.coef p (0x33 + 2 * set) false }

/-- Change the loops of a port. -/
def Hub.mapLoop (p : Fin 16) (f : Loop → Loop) (h : Hub) : Hub := h.mapPort p fun s => { s with loop := f s.loop }

/-- Let the set follow the stage; a change of mode while the stage runs reloads the inner integrator so that m stays (R277). -/
def Hub.retune (p : Fin 16) (h : Hub) : Hub :=
  let was := h.prd p STAGE_STATUS.set
  let h := h.pwr p STAGE_STATUS.set (h.pickSet p)
  let now := h.prd p STAGE_STATUS.set
  if was = now ∨ was = 3 ∨ now = 3 then h else h.mapLoop p (Loop.reload (h.loopIn p))

/-- Enter a stage state. A stage that starts from OFF, or is armed, has its loop preloaded (R311), which an armed stage keeps at
its start; in REVERSE the current reference rises from 0 (R309), and leaving it lowers the reference to 0 (R310). -/
def Hub.setStage (p : Fin 16) (s : Nat) (h : Hub) : Hub :=
  let was := h.stage p
  let h := (h.pwr p STAGE_STATUS.state s).retune p
  if s = stFrsArmed then h.mapLoop p (Loop.preload { h.loopIn p with vnow := 500 })
  else if was = stOff ∧ s ≠ stOff then h.mapLoop p (Loop.preload (h.loopIn p))
  else if s = stReverse ∧ was ≠ stReverse then
    h.mapLoop p fun l => { l with iv := 0, iRef := 0, since := h.sun.clk }
  else if was = stReverse ∧ s ≠ stReverse then h.mapLoop p fun l => { l with iv := 0, iRef := 0 }
  else h

/-- Give the loop a target that it slews to (R292, R296): a forward stage reads RAMP until the slew has ended. -/
def Hub.slewTo (p : Fin 16) (v : Nat) (h : Hub) : Hub :=
  let now := h.vnow p
  let h := h.moveTo p now v
  if h.forward p && now != v then h.setStage p stRamp else h

/-- Step the target without slew (R297). -/
def Hub.stepTo (p : Fin 16) (v : Nat) (h : Hub) : Hub := h.moveTo p v v

/-- A write of STAGE_SLEW acts from here on: what vnow has moved stays moved. -/
def Hub.writeSlew (p : Fin 16) (v : Word) (h : Hub) : Hub :=
  (h.moveTo p (h.vnow p) (h.port p).vsetEff).setWord (portKey p 0x2C) v

/-- Discard pending raises (R295). -/
def Hub.dropRaises (p : Fin 16) (h : Hub) : Hub :=
  ((h.mapPort p fun s => { s with vsetHeld := none, ilimHeld := none }).pwr p STAGE_STATUS.vset_pending 0).pwr p
    STAGE_STATUS.ilim_pending 0

/-- A write of vset (R292): a raise is held, anything else applies at once and replaces a pending raise; without effect
while a PORT_SAFE fault remains latched (R316). -/
def Hub.writeVset (p : Fin 16) (v : Nat) (h : Hub) : Hub :=
  if h.heldSafe p then h
  else
    let h := h.pwr p STAGE_VSET.vset v
    if (h.port p).vsetEff < v then
      (h.mapPort p fun s => { s with vsetHeld := some v }).pwr p STAGE_STATUS.vset_pending 1
    else ((h.mapPort p fun s => { s with vsetHeld := none }).pwr p STAGE_STATUS.vset_pending 0).slewTo p v

/-- A write of ilim_set (R293, R316): a raise above the limit in force (R299) is held, but for REVERSE, where every write
applies at once. -/
def Hub.writeIlim (p : Fin 16) (i : Nat) (h : Hub) : Hub :=
  if h.heldSafe p then h
  else
    let h := h.pwr p STAGE_ILIM.ilim_set i
    if h.ilimEff p < i && h.stage p != stReverse then
      (h.mapPort p fun s => { s with ilimHeld := some i }).pwr p STAGE_STATUS.ilim_pending 1
    else (h.mapPort p fun s => { s with ilimHeld := none, ilimEff := i }).pwr p STAGE_STATUS.ilim_pending 0

/-- Apply the pending raises at a ramp start, both in the same period (R292, R293). -/
def Hub.applyRaises (p : Fin 16) (h : Hub) : Hub :=
  let s := h.port p
  let h := h.dropRaises p
  let h := match s.ilimHeld with
    | some i => h.mapPort p fun s => { s with ilimEff := i }
    | none => h
  match s.vsetHeld with
  | some v => h.slewTo p v
  | none => h

/-- DSx shows a discharge that the hub has called for, or dis_test (R313); it is low until READY (R354). -/
def Hub.showDs (p : Fin 16) (h : Hub) : Hub :=
  let on := ((h.port p).discharging || h.pis p STAGE_CTRL.dis_test) && h.tc p != tcDeadBattery
  h.pwr p STAGE_STATUS.dis_on on.toNat

/-- The hub calls for DSx, until vSafe0V or whatever else releases it (R313). -/
def Hub.dsOn (p : Fin 16) (h : Hub) : Hub := (h.mapPort p fun s => { s with discharging := true }).showDs p

/-- The hub no longer calls for DSx: it stays asserted only while dis_test is 1 (R313). -/
def Hub.dsOff (p : Fin 16) (h : Hub) : Hub := (h.mapPort p fun s => { s with discharging := false }).showDs p

/-- End a running leakage probe with ABORTED (R342); the node it drove goes back to 0 V. -/
def Hub.abortLeak (p : Fin 16) (h : Hub) : Hub :=
  if h.prd p PASS_STATUS.leak_result = 1 then
    let h := ((h.pwr p PASS_STATUS.leak_result 4).stop p .leak).stop p .leakStep
    let h := h.stepTo p 0
    if h.forward p then h.setStage p stDrain else h
  else h

/-- Mode OFF (R315): the target goes to 0 V, pending raises are discarded, the node drains; a stage that is OFF in mode OFF
stays so, and one whose switches a protection turned off drains (R303). -/
def Hub.stageOff (p : Fin 16) (h : Hub) : Hub :=
  let idle := h.stage p == stOff && h.prd p STAGE_CTRL.mode == modeOff
  let h := ((h.abortLeak p).pwr p STAGE_CTRL.mode modeOff).dropRaises p
  let h := (h.stepTo p 0).pwr p STAGE_STATUS.node_ready 0
  if idle then h else h.setStage p stDrain

/-- The stage off with its target taken to 0 V (R41, R118, R119, R175, R236, R260): vset reads 0 with it, and the D+/D− short
opens before VBUS leaves 5 V (R113). -/
def Hub.targetOff (p : Fin 16) (h : Hub) : Hub :=
  ((h.pwr p BC12_CTRL.short_on 0).stageOff p).pwr p STAGE_VSET.vset 0

/-- Mode FORWARD (R276, R310, R316). -/
def Hub.stageForward (p : Fin 16) (h : Hub) : Hub :=
  if h.heldSafe p then h
  else
    let h := (h.abortLeak p).pwr p STAGE_CTRL.mode modeForward
    if h.forward p then h
    else
      let h := h.pwr p STAGE_STATUS.node_ready 0
      h.setStage p (if h.vnow p = (h.port p).vsetEff then stRegulate else stRamp)

/-- Mode REVERSE (R309 step 1, R316). -/
def Hub.stageReverse (p : Fin 16) (h : Hub) : Hub :=
  if h.heldSafe p then h
  else
    let h := ((h.abortLeak p).pwr p STAGE_CTRL.mode modeReverse).dropRaises p
    ((h.stepTo p 0).pwr p STAGE_STATUS.node_ready 0).setStage p stDrain

/-! ### The pass switch -/

abbrev psOff : Nat := 0
abbrev psInrush : Nat := 1
abbrev psOn : Nat := 2
abbrev psLimit : Nat := 3
abbrev psTripped : Nat := 4

/-- Command the switch on, where pass_en allows it and it is not latched off (R320, R330); the inrush timer (R322) and
the gate test (R338) start. -/
def Hub.passOn (p : Fin 16) (h : Hub) : Hub :=
  let h := h.abortLeak p
  if h.pis p PASS_CTRL.pass_en && !h.pis p PASS_STATUS.latched && !h.pis p PASS_STATUS.cmd_on then
    (((h.pwr p PASS_STATUS.cmd_on 1).pwr p PASS_STATUS.state psInrush).start p .inrush
      ((h.prd p PASS_INRUSH.inrush_time + 1) * 1000)).start p .gate 2000
  else h

/-- Command the switch off. -/
def Hub.passOff (p : Fin 16) (h : Hub) : Hub :=
  let h := ((h.pwr p PASS_STATUS.cmd_on 0).stop p .inrush).stop p .gate
  h.pwr p PASS_STATUS.state (if h.pis p PASS_STATUS.latched then psTripped else psOff)

abbrev tripFast : Nat := 1
abbrev tripSoa : Nat := 2
abbrev tripInrush : Nat := 3
abbrev tripGate : Nat := 4
abbrev tripLeaky : Nat := 5

/-- The gate and latch of a trip (R330). -/
def Hub.tripOff (p : Fin 16) (cause : Nat) (h : Hub) : Hub :=
  ((h.pwr p PASS_STATUS.latched 1).pwr p PASS_STATUS.trip_cause cause).passOff p

/-- A trip whose bit sets at once (R330, R331, R334): PASS_TRIP is stamped, and the port's source latches with it. -/
def Hub.trip (p : Fin 16) (cause : Nat) (f : PField) (h : Hub) : Hub :=
  ((h.tripOff p cause).portEvent p .passTrip cause).portFault p f

/-- Open the detach window of R118: the path is off, the lanes stay, pd_debounce runs. -/
def Hub.openWindow (p : Fin 16) (h : Hub) : Hub :=
  let h := ((h.targetOff p).passOff p).dsOn p
  (h.pwr p PASS_STATUS.window 1).start p .detachWindow (h.prd p TC_TIMER1.pd_debounce * 1000)

/-- A PORT_SAFE fault holds the node at 0 V, so a probe that must raise it cannot run (R26, R316; log entry 17). -/
def Hub.nodeHeld (h : Hub) (p : Fin 16) : Bool := h.heldSafe p && decide (h.prd p STAGE_CFG.topology ≤ 1)

/-- The states in which a probe may run (R339, R340). -/
def Hub.mayProbe (h : Hub) (p : Fin 16) : Bool :=
  let idle := h.tc p == tcRest || (h.tc p == tcOff && h.prd p PORT_STATUS.run == 0)
  let sink := h.tc p == tcAttachedSnk && !h.pis p PASS_STATUS.cmd_on && !h.pis p SWAP_STATUS.frs_armed &&
    !h.pis p SWAP_STATUS.feeding && !h.pis p PD_STATUS.in_transition
  !h.nodeHeld p && (idle || (sink && h.prd p STAGE_CFG.topology ≤ 1))

/-- Start the leakage probe (R339–R341): with a buck leg the node goes to leak_v; DSx stays released. -/
def Hub.startLeak (p : Fin 16) (h : Hub) : Hub :=
  let h := (h.pwr p PASS_STATUS.leak_result 1).dsOff p
  let h := if h.prd p STAGE_CFG.topology ≤ 1 then
      ((h.stepTo p 0).setStage p stRamp).slewTo p (h.prd p LEAK_CFG.leak_v)
    else h
  let rise := if h.prd p STAGE_CFG.topology ≤ 1 then 2 * h.prd p LEAK_CFG.leak_v else 0
  let h := h.start p .leak (rise + 11000)
  if h.prd p STAGE_CFG.topology ≤ 1 then h.start p .leakStep (rise + 5600) else h

/-- The probe that each entry to REST starts with leak_auto at 1 (R339); not while a PORT_SAFE fault holds the stage at
0 V (R316; log entry 17). -/
def Hub.autoLeak (p : Fin 16) (h : Hub) : Hub :=
  if h.pis p PASS_CTRL.leak_auto && !h.nodeHeld p then h.startLeak p else h

/-- Arm the FRS start (R311): an idle stage goes to FRS_ARMED, one that still drains when its drain ends. -/
def Hub.armStage (p : Fin 16) (h : Hub) : Hub :=
  let h := (h.abortLeak p).pwr p STAGE_CTRL.frs_arm 1
  if h.stage p = stOff then h.setStage p stFrsArmed else h

end Sys2Proof.Machine
end

