-- ==== Sys2Proof/Machine/Memory.lean ====
section
/-! DEFINITION. The memories (R399, R400, R186, R588–R590, R136): what a byte reads as, reads and writes of bytes and
words, error correction and poison (R401–R404). Addresses are those of the supervisor view. -/

namespace Sys2Proof.Machine

open Sys2Proof.Reg

/-- What an unlisted byte reads as (log entry 5): SRAM is zeroed at power-on reset (R405), flash is erased. -/
def memDefault (a : Nat) : Byte := if 0x08000000 ≤ a ∧ a < 0x08200000 then 0xFF else 0

/-- Memory has its canonical form: addresses strictly rising, and no entry equal to what an unlisted byte reads as. -/
def Memory.wf (m : List (Nat × Byte)) : Bool := sparseWf memDefault m

/-! ### The Signpost table (R588–R590) -/

/-- An entry: code, instances, flags, base, registers, stride, and the present mask of each part. -/
structure SignEntry where
  code : Nat
  instances : Nat
  flags : Nat
  base : Nat
  registers : Nat
  stride : Nat
  p1648 : Nat
  p0848 : Nat
  p0420 : Nat

/-- The table of R590. -/
def signEntries : List SignEntry :=
  [ ⟨0x01, 1, 0x08, 0x40000000, 24, 0, 1, 1, 1⟩, ⟨0x02, 1, 0x0C, 0x40001000, 81, 0, 1, 1, 1⟩,
    ⟨0x03, 1, 0x0C, 0x40002000, 30, 0, 1, 1, 1⟩, ⟨0x04, 1, 0x08, 0x40003000, 17, 0, 1, 1, 1⟩,
    ⟨0x05, 2, 0x08, 0x40004000, 16, 0x10, 3, 3, 3⟩, ⟨0x06, 1, 0x08, 0x40005000, 4, 0, 1, 1, 1⟩,
    ⟨0x07, 1, 0x08, 0x40006000, 44, 0, 1, 1, 1⟩, ⟨0x08, 1, 0x08, 0x40007000, 2, 0, 1, 1, 1⟩,
    ⟨0x09, 1, 0x08, 0x40008000, 11, 0, 1, 1, 1⟩, ⟨0x0A, 1, 0x08, 0x40009000, 18, 0, 1, 1, 1⟩,
    ⟨0x0B, 1, 0x0C, 0x4000A000, 11, 0, 1, 1, 1⟩, ⟨0x0C, 4, 0x09, 0x4000B000, 2, 0, 0xF, 3, 1⟩,
    ⟨0x0D, 1, 0x04, 0x4000F000, 3, 0, 1, 1, 1⟩, ⟨0x10, 16, 0x0D, 0x41000000, 56, 0, 0xFFFF, 0xFF, 0xF⟩,
    ⟨0x11, 16, 0x00, 0x21000000, 0, 0x800, 0xFFFF, 0xFF, 0xF⟩,
    ⟨0x12, 16, 0x10, 0x42000000, 10, 0, 0xFFFF, 0xFF, 0xF⟩, ⟨0x13, 2, 0x04, 0xE0000000, 16, 0, 3, 3, 1⟩,
    ⟨0x14, 1, 0x00, 0x22000000, 0, 0, 1, 1, 1⟩, ⟨0x15, 1, 0x00, 0x23000000, 0, 0, 1, 1, 1⟩,
    ⟨0x20, 1, 0x02, 0, 0, 0, 1, 1, 0⟩, ⟨0x21, 1, 0x02, 0, 0, 0, 1, 1, 0⟩,
    ⟨0x22, 16, 0x02, 0, 0, 0, 0xFFFF, 0xFF, 0⟩ ]

/-- The present mask of an entry on a part. -/
def SignEntry.present (e : SignEntry) : Part → Nat
  | .vls1648 => e.p1648
  | .vls0848 => e.p0848
  | .vls0420 => e.p0420

/-- The 16 bytes of an entry (R589). -/
def SignEntry.bytes (part : Part) (e : SignEntry) : List Byte :=
  leBytes 2 e.code ++ leBytes 1 1 ++ leBytes 1 e.instances ++ leBytes 2 (e.present part) ++ leBytes 2 e.flags ++
    leBytes 4 e.base ++ leBytes 2 e.registers ++ leBytes 2 e.stride

/-- The whole table: header, then entries (R588). -/
def signpost (part : Part) (stepping : Nat) : List Byte :=
  let body := (signEntries.map (SignEntry.bytes part)).flatten
  leBytes 4 0x504E4753 ++ leBytes 2 1 ++ leBytes 2 part.code ++ leBytes 1 stepping ++ leBytes 1 22 ++ leBytes 2 0 ++
    leBytes 4 (crc32 body) ++ List.replicate 16 0 ++ body

/-- A byte of boot ROM (R399): the Signpost table, zeros to its end, else content that the spec does not give. -/
def Hub.romByte (h : Hub) (a : Nat) : Byte :=
  if a < 0xF000 ∨ 0xF420 ≤ a then Config.bootRomByte a
  else (signpost h.part h.stepping).getD (a - 0xF000) 0

/-! ### Ledger memory (R186) -/

/-- Codes of entry states and kinds. -/
def EState.code : EState → Nat
  | .free => 0 | .shadow => 1 | .tentative => 2 | .waiting => 3 | .committed => 4 | .releasing => 5 | .standby => 6

def EKind.code : EKind → Nat
  | .implicit => 0 | .request => 1 | .forecast => 2 | .aux => 3

/-- The four words of an entry. -/
def Entry.word (e : Entry) (w : Nat) : Nat :=
  if e.st = .free then 0
  else
    match w with
    | 0 => e.st.code * 0x20000000 + e.cls % 4 * 0x8000000 + e.raise.toNat * 0x4000000 + e.kind.code * 0x1000000 +
        (if e.kind = .aux then 0 else e.port.val * 0x100000) + e.tool.toNat * 0x80000 + e.spec.toNat * 0x40000 +
        e.overCut.toNat * 0x20000 + e.ramp.isSome.toNat * 0x10000 + e.power % 0x10000
    | 1 => e.seq.toNat
    | 2 => e.floor % 0x10000 * 0x10000 + e.accepted.toNat * 0x8000 + e.prompted.toNat * 0x4000 +
        e.override.toNat * 0x2000 + (match e.supersedes with | some i => i.val | none => 0x7F)
    | _ =>
      match e.ramp with
      | some (.pos c a) => c.toNat % 0x10000 * 0x10000 + a.toNat
      | some .override => 0xFFFFFFFF
      | none => 0

/-- A node is present (R184, R186). -/
def Hub.nodePresent (h : Hub) (n : Nat) : Bool :=
  if n < 16 then n < h.part.ports else if n < 20 then n - 16 < h.part.quads else n == 20

/-- A word of a node record. -/
def Hub.nodeWord (h : Hub) (n : Fin 21) (w : Nat) : Nat :=
  if h.nodePresent n.val then
    match w with
    | 0 => h.ledger.totals[n].committed
    | 1 => h.ledger.totals[n].tentative
    | 2 => h.ledger.totals[n].standby
    | _ => h.nodeLimit n.val
  else 0

/-- A word of an undo record (chapter 05, "Rollback and the undo log"). -/
def Undo.word (u : Undo) (w : Nat) : Nat :=
  match w with
  | 0 => u.owner.toNat
  | 1 => u.idx.val
  | 2 => 0
  | 3 => 0
  | k => u.image.word (k - 4)

/-- The word of ledger memory at a byte offset. The undo log shows its records oldest first and closed up (DESIGN CHOICE: the
spec does not say where a record stands after older ones are discarded; log entry 108). -/
def Hub.ledgerWord (h : Hub) (o : Nat) : Nat :=
  if he : o / 16 < 64 then h.es[(⟨o / 16, he⟩ : Fin 64)].word (o % 16 / 4)
  else if o < 0x600 then
    (if hn : o / 16 - 64 < 21 then h.nodeWord ⟨o / 16 - 64, hn⟩ (o % 16 / 4) else 0)
  else if 0x1000 ≤ o ∧ o < 0x3000 then
    match h.ledger.undo.reverse[(o - 0x1000) / 32]? with
    | some u => u.word (o % 32 / 4)
    | none => 0
  else 0

/-- The reserved bytes of a port's message buffers, 0x0E30–0x0E3F and 0x0E70–0x0E7F, which read as 0 (R136). -/
def msgReserved (a : Nat) : Bool :=
  decide (0x21000000 ≤ a ∧ a < 0x21080000) && (a % 0x8000 / 16 == 0x6E3 || a % 0x8000 / 16 == 0x6E7)

/-- A byte of memory. -/
def Hub.memByte (h : Hub) (a : Nat) : Byte :=
  if a < 0x10000 then h.romByte a
  else if 0x22000000 ≤ a ∧ a < 0x22004000 then BitVec.ofNat 8 (h.ledgerWord (a - 0x22000000) / 256 ^ (a % 4))
  else if msgReserved a then 0
  else sparseGet memDefault h.mem a

/-- Write a byte. -/
def Hub.setByte (a : Nat) (v : Byte) (h : Hub) : Hub := { h with mem := sparseSet memDefault h.mem a v }

/-- Bytes from an address on. -/
def Hub.memBytes (h : Hub) : Nat → Nat → List Byte
  | _, 0 => []
  | a, n + 1 => h.memByte a :: h.memBytes (a + 1) n

/-- A little-endian number of `n` bytes. -/
def Hub.memNat (h : Hub) (a : Nat) : Nat → Nat
  | 0 => 0
  | n + 1 => (h.memByte a).toNat + 256 * h.memNat (a + 1) n

/-- A word of memory. -/
def Hub.memWord (h : Hub) (a : Nat) : Word := BitVec.ofNat 32 (h.memNat a 4)

/-- Write bytes from an address on. -/
def Hub.setBytes (a : Nat) : List Byte → Hub → Hub
  | [], h => h
  | b :: l, h => (h.setByte a b).setBytes (a + 1) l

/-- Write a word. -/
def Hub.setMemWord (a : Nat) (v : Word) (h : Hub) : Hub := h.setBytes a (leBytes 4 v.toNat)

/-- A free value of the run (log entry 14). -/
def Hub.takeFree (h : Hub) : Word × Hub := (Config.freeValue h.freeCount, { h with freeCount := h.freeCount + 1 })

/-! ### Error correction (R401–R404) -/

/-- The 64-bit word that holds an address. -/
def word64 (a : Nat) : Nat := a / 8 * 8

/-- The address lies in flash. -/
def isFlash (a : Nat) : Bool := 0x08000000 ≤ a && a < 0x08200000

/-- The word at an address is poisoned. -/
def Hub.poisoned (h : Hub) (a : Nat) : Bool := h.poison.contains (word64 a)

/-- Record a correction or detection (R402, R403). -/
def Hub.eccNote (a id kind : Nat) (h : Hub) : Hub :=
  ((h.setWord 0x9012 (BitVec.ofNat 32 (word64 a))).wr ECC_INFO.master id).wr ECC_INFO.kind kind

/-- Read the 64-bit word of an address through the ECC logic for a master, with the access type of the capture: what
latches and is written back, and whether the data is marked poisoned. -/
def Hub.eccRead (a id access : Nat) (h : Hub) : Hub × Bool :=
  let w := word64 a
  if h.poison.contains w then (h, true)
  else
    match h.upsets.lookup w with
    | none => (h, false)
    | some n =>
      let acc : Access := { master := id, kind := access, addr := BitVec.ofNat 32 a }
      let flash := isFlash a
      if n ≤ 2 then
        let h := if flash then h.bump ECC_FLASH_CNT.corrected else h.bump ECC_SRAM_CNT.corrected
        let h := h.eccNote a id n
        let h := if flash then h else { h with upsets := h.upsets.filter fun x => x.1 != w }
        (h.latch (if flash then 18 else 16) acc, false)
      else
        let h := if flash then h.bump ECC_FLASH_CNT.uncorrectable else h.bump ECC_SRAM_CNT.uncorrectable
        let h := h.eccNote a id 3
        let h := if flash then h else
          { h with upsets := h.upsets.filter (fun x => x.1 != w), poison := w :: h.poison }
        (h.latch (if flash then 19 else 17) acc, true)

/-- A narrow store's read half (R404): an uncorrectable word stays poisoned, errors that it can correct go. -/
def Hub.eccStore (a id : Nat) (h : Hub) : Hub := (h.eccRead a id 1).1

/-! ### Message buffers (R136) -/

/-- Address of a byte of a port's message buffers in the supervisor view. -/
def msgAddr (p : Fin 16) (o : Nat) : Nat := 0x21006000 + 0x8000 * p.val + o

/-- Write words from an offset of a port's message buffers on. -/
def Hub.setMsgWords (p : Fin 16) (o : Nat) (ws : List Word) (h : Hub) : Hub :=
  h.setBytes (msgAddr p o) (ws.map fun w => leBytes 4 w.toNat).flatten

end Sys2Proof.Machine
end

