-- ==== Sys2Proof/Machine/Wire.lean ====
section
/-! DEFINITION. Power data objects and requests: what a port advertises (R144–R148, R631), whether a request fits
(R160), and the words they stand in on the wire. The bit places are those of USB Power Delivery 3.2, which the spec
follows by reference (log entry 18). -/

namespace Sys2Proof.Machine

open Sys2Proof.Reg

/-- A zero PDO, which fills an unused position (R147). -/
def Pdo.zero : Pdo :=
  { kind := .fixed, vmin := 0, vmax := 0, amp := 0, pdp := 0, dualRole := false, unconstrained := false,
    eprCapable := false, frs := 0 }

/-- The word of a PDO; `sink` places the Fast Role Swap current of a sink's fixed PDO. -/
def pdoWord (sink : Bool) (d : Pdo) : Word :=
  BitVec.ofNat 32 (match d.kind with
    | .fixed =>
      if d.vmax = 0 then 0
      else d.dualRole.toNat * 0x20000000 + d.unconstrained.toNat * 0x8000000 +
        (if sink then d.frs.val * 0x800000 else d.eprCapable.toNat * 0x800000) + d.vmax / 5 % 1024 * 1024 +
        d.amp / 10 % 1024
    | .pps => 0xC0000000 + d.vmax / 10 % 256 * 0x20000 + d.vmin / 10 % 256 * 0x100 + d.amp / 50 % 128
    | .avs => 0xD0000000 + d.vmax / 10 % 512 * 0x20000 + d.vmin / 10 % 256 * 0x100 + d.pdp / 10 % 256
    | .variable => 0x80000000 + d.vmax / 5 % 1024 * 0x100000 + d.vmin / 5 % 1024 * 1024 + d.amp / 10 % 1024
    | .battery => 0x40000000 + d.vmax / 5 % 1024 * 0x100000 + d.vmin / 5 % 1024 * 1024 + d.pdp * 10 / 25 % 1024)

/-- A current in mA at a power in 0.1 W and a voltage in 10 mV, rounded down to a step. -/
def currentAt (power volt step : Nat) : Nat := if volt = 0 then 0 else power * 10000 / volt / step * step

/-- What a PDO advertises of an offered power (R145, R146). -/
def advertise (power cap : Nat) (d : Pdo) : Pdo :=
  match d.kind with
  | .fixed => { d with amp := min (min d.amp cap) (currentAt power d.vmax 10) }
  | .pps => { d with amp := min (min d.amp cap) (currentAt power d.vmax 50) }
  | .avs => { d with pdp := min d.pdp (power / 10 * 10) }
  | .variable | .battery => d

/-- The PDO is left out (R147): the 5 V PDO never is. -/
def leftOut (d : Pdo) : Bool :=
  match d.kind with
  | .avs => d.pdp < 150
  | .pps => d.amp < 500
  | .fixed => d.vmax != 500 && d.amp < 500
  | .variable | .battery => false

/-- The supply is fed from mains: Bivouac mode is not active (R148). -/
def Hub.onMains (h : Hub) : Bool := !h.islanded

/-- The SPR PDOs that the port advertises of a power (R145–R148); a partner at PD 2.0 gets no PPS (R133). -/
def Hub.sprPdos (h : Hub) (p : Fin 16) (power : Nat) : List Pdo :=
  let card := h.card.ports[p]
  let cap := if h.pis p PD_STATUS.cable_5a then 5000 else 3000
  let pdos := (card.spr.map (advertise power cap)).filter fun d =>
    !leftOut d && !(d.kind == .pps && h.prd p PD_STATUS.partner_rev == 1)
  match pdos with
  | [] => []
  | d :: l =>
    { d with unconstrained := h.onMains,
             eprCapable := h.pis p PD_CTRL.epr_allow && !card.epr.isEmpty } :: l

/-- The PDOs of a Source_Capabilities, or of an EPR_Source_Capabilities with EPR PDOs from position 8 on. -/
def Hub.sourcePdos (h : Hub) (p : Fin 16) (power : Nat) (epr : Bool) : List Pdo :=
  let spr := h.sprPdos p power
  if epr then
    let cap := if h.pis p PD_STATUS.cable_5a then 5000 else 3000
    let more := (h.card.ports[p].epr.map (advertise power cap)).filter fun d => !leftOut d
    spr ++ List.replicate (7 - spr.length) Pdo.zero ++ more
  else spr

/-- The hub's sink PDOs (R631). -/
def Hub.sinkPdos (h : Hub) (p : Fin 16) (epr : Bool) : List Pdo :=
  let c := h.card.ports[p]
  let five : Pdo := { Pdo.zero with vmin := 500, vmax := 500, amp := min 3000 (currentAt c.snkPower 500 10),
                                    dualRole := (h.port p).role == 2,
                                    frs := Fin.ofNat 4 (h.prd p SWAP_CTRL.frs_req) }
  let v := min c.snkHigh 2000 / 5 * 5
  let a := min (if h.pis p PD_STATUS.cable_5a then 5000 else 3000) (currentAt c.snkPower v 10)
  let spr := if 500 < c.snkHigh ∧ 500 ≤ a then [five, { Pdo.zero with vmin := v, vmax := v, amp := a }] else [five]
  if epr then
    let spr := spr ++ List.replicate (7 - spr.length) Pdo.zero
    if 2800 ≤ c.snkHigh then
      let v := if 4800 ≤ c.snkHigh then 4800 else if 3600 ≤ c.snkHigh then 3600 else 2800
      spr ++ [{ Pdo.zero with vmin := v, vmax := v, amp := min 5000 (currentAt c.snkPower v 10) }]
    else spr
  else spr

/-- The voltage of a request in 10 mV: the PDO's, or the requested output voltage. -/
def requestVolt (d : Pdo) (r : Rdo) : Nat := if d.kind = .fixed then d.vmax else r.volt

/-- The highest current of a PDO at a voltage, in mA (R160). -/
def pdoMaxCurrent (d : Pdo) (volt : Nat) : Nat :=
  if d.kind = .avs then (if volt = 0 then 0 else d.pdp * 10000 / volt) else d.amp

/-- The request is valid against the acknowledged capabilities (R160). -/
def requestValid (acked : List Pdo) (eprMode epr : Bool) (r : Rdo) : Bool :=
  if r.pos.val = 0 then false
  else
    match acked[r.pos.val - 1]? with
    | none => false
    | some d =>
      let volt := requestVolt d r
      let max_ := pdoMaxCurrent d volt
      d != Pdo.zero && (r.pos.val < 8 || eprMode) && r.opCur ≤ max_ &&
        (match r.maxCur with | some m => r.mismatch || m ≤ max_ | none => true) &&
        (match d.kind with
          | .fixed => true
          | .pps => d.vmin ≤ volt && volt ≤ d.vmax && volt % 2 == 0
          | .avs => d.vmin ≤ volt && volt ≤ d.vmax && volt % 10 == 0
          | .variable | .battery => false) &&
        (match r.copied with | some w => !epr || w == pdoWord false d | none => !epr)

/-- The power of a request (R183). -/
def requestPower (d : Pdo) (r : Rdo) : Nat := powerOf (requestVolt d r) r.opCur

/-- The current limit that R300 gives a contract. -/
def contractLimit (d : Pdo) (r : Rdo) : Nat :=
  match d.kind with
  | .pps => r.opCur
  | .fixed | .variable | .battery => min 5500 (d.amp * 110 / 100)
  | .avs => min 5500 (pdoMaxCurrent d (requestVolt d r) * 110 / 100)

/-- The current limit under an implicit contract by Rp level (R300). -/
def implicitLimit : Nat → Nat
  | 0 => 550
  | 1 => 1650
  | _ => 3300

/-- The power of an implicit claim by Rp level (R109). -/
def implicitPower : Nat → Nat
  | 0 => 25
  | 1 => 75
  | _ => 150

/-- The current in mA of a Fast Role Swap code (R246). -/
def frsCurrent : Nat → Nat
  | 0 => 0
  | 1 => 900
  | 2 => 1500
  | _ => 3000

/-- Codes of a contract's kind (CONTRACT_PWR.kind, STAGE_CTRL.cl_kind). -/
def pdoKindCode : PdoKind → Nat
  | .fixed => 0
  | .pps => 1
  | .avs => 2
  | .variable | .battery => 0

/-- The RDO that the hub sends as sink. -/
def rdoWord (pos : Nat) (d : Pdo) (volt cur : Nat) (epr : Bool) : Word :=
  BitVec.ofNat 32 (pos % 16 * 0x10000000 + epr.toNat * 0x400000 +
    (match d.kind with
      | .fixed | .variable | .battery => cur / 10 % 1024 * 1024 + cur / 10 % 1024
      | .pps => volt / 2 % 4096 * 512 + cur / 50 % 128
      | .avs => volt * 4 / 10 % 4096 * 512 + cur / 50 % 128))

/-- The request that an RDO word spells against a PDO, as the hub recorded its own. -/
def rdoOf (pos : Nat) (d : Pdo) (volt cur : Nat) (epr : Bool) : Rdo :=
  { raw := rdoWord pos d volt cur epr, pos := Fin.ofNat 16 pos, opCur := cur,
    maxCur := if d.kind = .fixed then some cur else none, volt := volt, mismatch := false, eprCapable := epr,
    copied := none }

end Sys2Proof.Machine
end

