-- ==== Sys2Proof/Machine/PdOps.lean ====
section
/-! DEFINITION. Operations of a port's messaging that the meanings share (chapter 04): the frames it sends, its own
AMSs and SinkTxNG, contracts and their end, claims by Rp level, Soft_Reset and Hard Reset. The head of `txq` is on the
wire; the others follow. A list `amsq` holds the AMSs of the hub's own that wait to start. -/

namespace Sys2Proof.Machine

open Sys2Proof.Reg

/-- The port is source (PD_STATUS.power_role). -/
def Hub.isSource (h : Hub) (p : Fin 16) : Bool := h.pis p PD_STATUS.power_role

/-- An explicit contract exists. -/
def Hub.explicit (h : Hub) (p : Fin 16) : Bool := 2 ≤ h.prd p PD_STATUS.contract

/-- The hub speaks PD 3.x to the partner (R133). -/
def Hub.pd3 (h : Hub) (p : Fin 16) : Bool := h.prd p PD_STATUS.partner_rev != 1

/-- The port is in EPR mode. -/
def Hub.eprMode (h : Hub) (p : Fin 16) : Bool := h.pis p PD_STATUS.epr_mode

/-- The hub is VCONN source on the port. -/
def Hub.vconnSource (h : Hub) (p : Fin 16) : Bool := h.pis p VCONN_CTRL.vconn_on

/-- The auto-responder holds the port (R569): a warm restart runs and the port has not adopted. -/
def Hub.autoHeld (h : Hub) (p : Fin 16) : Bool := (h.port p).auto

/-! ### Frames -/

/-- The AMS code of a message of the hub's own (PD_STATUS.ams). -/
def amsOf : Msg → Nat
  | .sourceCaps _ _ | .getSourceCap | .getSinkCap | .getSinkCapExt => 1
  | .request _ | .eprRequest _ _ => 2
  | .swapRequest _ | .frSwap => 3
  | .discoverCable | .discoverPartner => 5
  | .softReset => 8
  | _ => 0

/-- Put the head of the queue on the wire: tReceive starts (R132); an attempt at the cable is counted and its 45 ms run
(R150); the hub's own swap holds busy from its first frame on (R235). -/
def Hub.launch (p : Fin 16) (h : Hub) : Hub :=
  match (h.port p).txq with
  | [] => h
  | m :: _ =>
    let h := (h.mapPort p fun s => { s with retries := 0 }).start p .tReceive 1000
    match m with
    | .discoverCable =>
      (h.mapPort p fun s => { s with discTries := s.discTries + 1, discTotal := s.discTotal + 1 }).start p .discover 45000
    | .swapRequest _ => h.pwr p SWAP_STATUS.busy 1
    | _ => h

/-- What a message changes when it is sent: its counter, and the capabilities' generation (R149). -/
def Hub.countSent (p : Fin 16) (m : Msg) (h : Hub) : Hub :=
  match m with
  | .wait | .waitSwap => h.pbump p PD_CNT3.wait_tx
  | .notSupported => h.pbump p PD_CNT3.not_supported_tx
  | .softReset => h.pbump p PD_CNT2.soft_reset
  | .sourceCaps epr pdos =>
    let spr := if epr then (pdos.take 7).filter (· != Pdo.zero) else pdos
    (((h.pwr p CAPS_INFO.caps_gen (h.prd p CAPS_INFO.caps_gen + 1)).pwr p CAPS_INFO.spr_count spr.length).pwr p
      CAPS_INFO.epr_count (if epr then (pdos.drop 7).length else 0)).pwr p CAPS_INFO.offer (h.offer p)
  | _ => h

/-- Queue a frame for sending: it goes on the wire when those before it are done. -/
def Hub.send (p : Fin 16) (m : Msg) (h : Hub) : Hub :=
  if (h.port p).pdOn && h.attached p then
    let first := (h.port p).txq.isEmpty
    let h := (h.countSent p m).mapPort p fun s => { s with txq := s.txq ++ [m] }
    if first then h.launch p else h
  else h

/-- The port's AMS engine is busy. -/
def Hub.amsBusy (h : Hub) (p : Fin 16) : Bool :=
  h.prd p PD_STATUS.ams != 0 || !(h.port p).txq.isEmpty || h.runs p .senderResponse

/-- Whether an AMS of the hub's own needs SinkTxNG first (R134). -/
def Hub.needsNg (h : Hub) (p : Fin 16) : Bool :=
  h.isSource p && h.explicit p && h.prd p PD_STATUS.partner_rev == 2 && (h.port p).rpLevel == 2

/-- Build capabilities when they leave: what the port advertises is set against the present offer (R145). -/
def Hub.fillCaps (h : Hub) (p : Fin 16) : Msg → Msg
  | .sourceCaps epr _ => .sourceCaps epr (h.sourcePdos p (h.offer p) epr)
  | m => m

/-- Show SinkTxNG or SinkTxOK (R134). -/
def Hub.setNg (p : Fin 16) (on : Bool) (h : Hub) : Hub :=
  (h.pwr p PD_STATUS.sink_tx_ng on.toNat).mapPort p fun s => { s with rpShown := if on then 1 else 2 }

/-- Start the next AMS of the hub's own, if the port is free: under an explicit contract with a PD 3.x partner the
source shows SinkTxNG and waits 18 ms first. Nothing starts while a Request is arriving (R134, R165). -/
def Hub.pump (p : Fin 16) (h : Hub) : Hub :=
  if !(h.port p).pdOn || !h.attached p || h.amsBusy p || h.autoHeld p || (h.port p).drain != .none ||
      (h.port p).arriving then h
  else
    match (h.port p).amsq with
    | [] => if h.pis p PD_STATUS.sink_tx_ng then (h.setNg p false).stop p .sinkTx else h
    | m :: rest =>
      if h.needsNg p && (!h.pis p PD_STATUS.sink_tx_ng || h.runs p .sinkTx) then
        if h.runs p .sinkTx then h else (h.setNg p true).start p .sinkTx 18000
      else
        let h := (h.mapPort p fun s => { s with amsq := rest }).pwr p PD_STATUS.ams (amsOf m)
        h.send p (h.fillCaps p m)

/-- Ask for an AMS of the hub's own. -/
def Hub.startAms (p : Fin 16) (m : Msg) (h : Hub) : Hub :=
  (h.mapPort p fun s => { s with amsq := s.amsq ++ [m] }).pump p

/-- An AMS has ended: SinkTxOK returns, and the next one starts. -/
def Hub.endAms (p : Fin 16) (h : Hub) : Hub :=
  let h := ((h.pwr p PD_STATUS.ams 0).mapPort p fun s => { s with awaiting := none }).stop p .senderResponse
  let h := if h.pis p PD_STATUS.sink_tx_ng then h.setNg p false else h
  h.pump p

/-- The message begins an AMS of the hub's own. -/
def startsAms : Msg → Bool
  | .sourceCaps _ _ | .getSourceCap | .getSinkCap | .getSinkCapExt | .getStatus | .getBattery | .alertCondition
  | .alertSource | .request _ | .eprRequest _ _ | .swapRequest _ | .discoverCable | .discoverPartner | .eprKeepAlive
  | .firmware _ => true
  | _ => false

/-- A message arrives before an AMS of the hub's own has started (R135): frames of such an AMS that are not yet on the wire
wait again, and the AMS starts from the beginning once the message is dealt with. -/
def Hub.cancelOwn (p : Fin 16) (h : Hub) : Hub :=
  let h := if h.runs p .sinkTx then (h.stop p .sinkTx).setNg p false else h
  h.mapPort p fun s => match s.txq with
    | [] => s
    | m :: rest => { s with txq := m :: rest.filter (fun x => !startsAms x), amsq := rest.filter startsAms ++ s.amsq }

/-- Whether the message is capabilities. -/
def isCaps : Msg → Bool
  | .sourceCaps _ _ => true
  | _ => false

/-- Ask for fresh capabilities, once (R164, R207, R214). -/
def Hub.freshCaps (p : Fin 16) (h : Hub) : Hub :=
  let h := h.mapPort p fun s => { s with capsPrompt := false }
  if h.tc p == tcAttachedSrc && h.isSource p && h.prd p PD_STATUS.contract != 0 && (h.port p).pdOn &&
      !h.pis p PD_STATUS.pd_silent && !h.autoHeld p && !((h.port p).amsq.any isCaps) then
    h.startAms p (.sourceCaps (h.eprMode p) [])
  else h

/-- A prompt that has waited for a Request asks for its capabilities now (R165). -/
def Hub.releasePrompt (p : Fin 16) (h : Hub) : Hub :=
  if (h.port p).capsDue then (h.mapPort p fun s => { s with capsDue := false }).freshCaps p else h

/-- Start sender_response for the reply to a message (R180): a reply that comes now is to this one (R233). -/
def Hub.awaitReply (p : Fin 16) (m : Msg) (h : Hub) : Hub :=
  (h.mapPort p fun s => { s with awaiting := some m, stale := false }).start p .senderResponse
    (h.prd p PD_TIMER.sender_response * 1000)

/-- The reply has come, or is no longer awaited. -/
def Hub.gotReply (p : Fin 16) (h : Hub) : Hub :=
  (h.mapPort p fun s => { s with awaiting := none }).stop p .senderResponse

/-! ### Contracts -/

/-- Leave EPR mode (R173). -/
def Hub.exitEpr (p : Fin 16) (h : Hub) : Hub :=
  if h.eprMode p then
    (((h.pwr p PD_STATUS.epr_mode 0).pwr p PD_EVENT.epr_exited 1).stop p .eprSource).stop p .sinkEpr
      |>.pwr p PD_STATUS.contract (min 2 (h.prd p PD_STATUS.contract)) |>.portEvent p .eprExited 0
  else h

/-- An explicit contract ends: its registers read 0. -/
def Hub.endContract (p : Fin 16) (h : Hub) : Hub :=
  let had := h.explicit p
  let h := (((h.setWord (portKey p 0x12) 0).setWord (portKey p 0x13) 0).setWord (portKey p 0x14) 0).setWord
    (portKey p 0x15) 0
  let h := (h.mapPort p fun s => { s with deal := none, pending := none, asked := none }).pwr p PD_STATUS.contract 0
  let h := (h.stop p .pps).stop p .sinkPps
  if had then (h.pwr p PD_EVENT.contract_lost 1).portEvent p .contractLost 0 else h

/-- A contract takes force (CONTRACT_RDO to CONTRACT_PWR). -/
def Hub.enterContract (p : Fin 16) (d : Deal) (h : Hub) : Hub :=
  let h := (h.setWord (portKey p 0x12) d.rdo.raw).setWord (portKey p 0x13) (pdoWord (!h.isSource p) d.pdo)
  let h := (h.pwr p CONTRACT_VI.volt d.volt).pwr p CONTRACT_VI.curr d.rdo.opCur
  let h := (((h.pwr p CONTRACT_PWR.cap_mismatch d.rdo.mismatch.toNat).pwr p CONTRACT_PWR.kind
    (pdoKindCode d.pdo.kind)).pwr p CONTRACT_PWR.obj_pos d.rdo.pos.val).pwr p CONTRACT_PWR.power d.power
  let h := h.pwr p PD_STATUS.contract (if h.eprMode p then 3 else 2)
  (h.mapPort p fun s => { s with deal := some d, pending := none, asked := none }).pwr p PD_STATUS.in_transition 0

/-- The voltage in 10 mV and the current limit in mA of the contract in force (R41, R300). -/
def Hub.contractTarget (h : Hub) (p : Fin 16) : Nat × Nat :=
  match (h.port p).deal with
  | some d => (d.volt, contractLimit d.pdo d.rdo)
  | none => if h.prd p PD_STATUS.contract = 1 then (500, implicitLimit (h.port p).implicitTry) else (0, 0)

/-- Return the loop's target to the contract in force (R41). -/
def Hub.revertTarget (p : Fin 16) (h : Hub) : Hub :=
  let t := h.contractTarget p
  (h.writeVset p t.1).writeIlim p t.2

/-- Discard speculative frames and the record of their claim (R158, R159). -/
def Hub.dropSpec (p : Fin 16) (h : Hub) : Hub :=
  (h.mapPort p fun s => { s with spec := none }).pwr p PD_STATUS.spec 0

/-- MessageID counters start again. -/
def Hub.resetIds (p : Fin 16) (h : Hub) : Hub :=
  h.mapPort p fun s => { s with txId := 0, txIdP := 0, rxId := none, rxIdP := none }

/-- Whether a frame on the queue is an Accept of a transition (R202). -/
def isAccept : Msg → Bool
  | .acceptTransition => true
  | _ => false

/-- Everything of the protocol layer that a Hard Reset or the end of an attach discards; Rp is back at its level (R134). -/
def Hub.resetProtocol (p : Fin 16) (h : Hub) : Hub :=
  let h := (h.resetIds p).dropSpec p
  let h := h.mapPort p fun s =>
    { s with txq := [], amsq := [], retries := 0, pending := none, capsDue := false, capsPrompt := false, eprEntry := false,
             hrOwed := false, stale := false, awaiting := none, txSlots := [], capsSent := 0, chunkData := [],
             chunkOut := none, discTries := 0, arriving := false, asked := none }
  let h := if h.pis p PD_STATUS.sink_tx_ng then h.setNg p false else h
  let h := (((h.pwr p PD_STATUS.ams 0).pwr p PD_STATUS.in_transition 0).pwr p PD_STATUS.wait_held 0).pwr p
    PD_STATUS.sink_tx_ng 0
  h.stopAllBut p [.rest, .discharge, .detachWindow, .inrush, .gate, .leak, .leakStep, .drainHardReset, .promptHold, .battery]

/-- The port's PE_ANSWER and ledger after a withdrawal of its WAITING entry; R593 counts and logs it as a rollback. -/
def Hub.withdrawWaiting (p : Fin 16) (h : Hub) : Hub :=
  match portEntry h.es p [.waiting] with
  | none => h
  | some i =>
    let e := h.es[i]
    let h := h.freeEntry p [.waiting]
    let h := if e.spec then h
      else (h.bump HAMPER_CNT2.rollbacks).log { ev := .rollback, data := e.power, port := some p }
    h.answer p 6 i.val e.power

/-- Implicit claims from an Rp level down (R109, R110): each Wait is withdrawn but the last, which holds the port. -/
def Hub.claimLevels (p : Fin 16) : Nat → Hub → Hub
  | 0, h =>
    let h := h.claim p { kind := .implicit, power := implicitPower 0, raise := true }
    if h.crd p PE_ANSWER.answer = 1 then
      (h.mapPort p fun s => { s with rpShown := 0, implicitTry := 0 }).pwr p PORT_STATUS.held 0
    else h.pwr p PORT_STATUS.held 1
  | n + 1, h =>
    let h := h.claim p { kind := .implicit, power := implicitPower (n + 1), raise := true }
    if h.crd p PE_ANSWER.answer = 1 then
      (h.mapPort p fun s => { s with rpShown := n + 1, implicitTry := n + 1 }).pwr p PORT_STATUS.held 0
    else ((h.stamp p.val).withdrawWaiting p).claimLevels p n

/-! ### Resets -/

/-- End a swap with a result (R235, SWAP_STATUS); a Fast Role Swap ends with it unless the port feeds. -/
def Hub.endSwap (p : Fin 16) (result : Nat) (h : Hub) : Hub :=
  if h.pis p SWAP_STATUS.busy || (h.port p).swap.isSome then
    let keep := h.pis p SWAP_STATUS.feeding
    (((h.mapPort p fun s => { s with swap := none, frs := if keep then s.frs else .none }).pwr p
      SWAP_STATUS.result result).pwr p SWAP_STATUS.busy 0)
      |>.stop p .swapWait |>.stop p .prSourceOff |>.stop p .prPsRdy |>.stop p .vconnReady |>.stop p .vconnPsRdy
  else h

/-- A port stops feeding: what follows for the island is settled before the command ends (R265). -/
def Hub.loseFeed (p : Fin 16) (h : Hub) : Hub :=
  if h.pis p SWAP_STATUS.feeding then
    { h.mapPort p (fun s => { s with frs := .none }) with lostFeeds := h.lostFeeds ++ [p] }
      |>.pwr p SWAP_STATUS.feeding 0 |>.stop p .frsVbus |>.stop p .frsMsg
  else h

/-- A Fast Role Swap ends or is disarmed: the STANDBY entry goes (R190), and a port that was armed and does not feed
opens its pass switch (R231). -/
def Hub.disarmFrs (p : Fin 16) (h : Hub) : Hub :=
  let armed := h.pis p SWAP_STATUS.frs_armed
  let h := (h.pwr p SWAP_STATUS.frs_armed 0).pwr p STAGE_CTRL.frs_arm 0
  let h := h.freeEntry p [.standby]
  let h := if h.stage p = stFrsArmed then h.setStage p stOff else h
  if armed && !h.pis p SWAP_STATUS.feeding then h.passOff p else h

/-- What Soft_Reset does, sent or received (R174). -/
def Hub.softResetEffects (p : Fin 16) (h : Hub) : Hub :=
  let h := h.portEvent p .softReset 0
  let h := (h.pwr p PD_EVENT.soft_reset 1).resetIds p
  let h := (h.rollbackTentative p).dropSpec p
  let h := h.freeEntry p [.waiting]
  let h := (h.pwr p PD_STATUS.wait_held 0).mapPort p fun s =>
    { s with txq := [], pending := none, asked := none, chunkOut := none, capsDue := false, capsPrompt := false,
             eprEntry := false, stale := false, awaiting := none, txSlots := [] }
  ((((h.stop p .tReceive).stop p .senderResponse).stop p .sinkWait).stop p .promptHold).endSwap p 5
    |>.pwr p PD_STATUS.ams 0

/-- The hub sends Soft_Reset. -/
def Hub.sendSoftReset (p : Fin 16) (h : Hub) : Hub :=
  if h.attached p && (h.port p).pdOn then
    ((h.softResetEffects p).pwr p PD_STATUS.ams 8).send p .softReset
  else h

/-- The ledger at a Hard Reset as source (R175, R190): every entry is rolled back but SHADOW; COMMITTED goes to
RELEASING until the pass switch opens or VBUS is at vSafe0V. -/
def Hub.releaseForHardReset (p : Fin 16) (h : Hub) : Hub :=
  let had := portEntry h.es p [.tentative, .waiting]
  let h := h.rollbackTentative p
  let h := match had with | some i => h.answer p 4 i.val 0 | none => h
  let h := h.freeEntry p [.waiting]
  let h := h.freeEntry p [.standby]
  let h := h.dropRamp p
  match portEntry h.es p [.committed] with
  | some i =>
    ({ h with ledger := h.ledger.settle h.es[i].owner }
      |>.setEntry i { h.es[i] with st := EState.releasing, overCut := false }).liftTrim p
  | none => h.liftTrim p

/-- Hard Resets of the last 10 s, the newest first (R177). -/
def recentResets (now : Nat) (l : List Nat) : List Nat := now :: l.filter fun t => now - t ≤ 3000000000

/-- A Hard Reset of a port takes effect (R175–R178): stamped, counted, and judged for a storm: those
that led to one no longer count towards the next (DESIGN CHOICE, log entry 107). As source the entries go and tPSHardReset
starts; as sink VBUS below vSafe5V is ignored for up to 1.5 s; a port that feeds is lost (R265). A VCONN source discovers the cable again (R175, R243). -/
def Hub.hardReset (p : Fin 16) (sent : Bool) (h : Hub) : Hub :=
  if !h.attached p then h
  else
    let h := (h.portEvent p .hardReset 0).pwr p PD_EVENT.hard_reset 1
    let h := if sent then h.pbump p PD_CNT2.hard_reset_tx else h.pbump p PD_CNT2.hard_reset_rx
    let vconn := h.vconnSource p
    let h := h.mapPort p fun s =>
      { s with hrTimes := recentResets h.sun.clk s.hrTimes, cableAnswered := false, rediscover := s.rediscover || vconn }
    let h := if h.prd p PD_CTRL.hr_storm_max ≤ (h.port p).hrTimes.length then
        (h.mapPort p fun s => { s with hrTimes := [] }).portFault p PORT_FAULT.hr_storm
      else h
    let frs := (h.port p).frs != .none
    let h := h.endSwap p 5
    let source := h.isSource p
    let h := if source && h.pis p SWAP_STATUS.feeding then ((h.loseFeed p).targetOff p).passOff p else h
    let h := if source then (h.releaseForHardReset p).revertTarget p
      else ((h.releaseEntries p true).disarmFrs p)
    let h := ((h.endContract p).exitEpr p).resetProtocol p
    let h := ((h.pwr p PD_STATUS.cable_5a 0).pwr p PD_STATUS.cable_epr 0).pwr p PD_STATUS.ams 7
    if source then
      (h.mapPort p fun s => { s with hr := .waitOff }).start p .hrVbusOff 25000
    else
      let h := if frs then ((h.loseFeed p).targetOff p).passOff p else h
      (h.mapPort p fun s => { s with hr := .recovering }).start p .sinkHr 1500000

/-- A cut or a veto rolls a TENTATIVE entry back (R41, R202): with its Accept acknowledged Hard Reset goes at once, with
its Accept on the way at that GoodCRC. -/
def Hub.rollbackByHamper (p : Fin 16) (h : Hub) : Hub :=
  match portEntry h.es p [.tentative] with
  | none => h
  | some i =>
    let accepted := h.es[i].accepted
    let released := (h.port p).txq.any isAccept
    let h := ((h.rollbackTentative p).answer p 4 i.val 0).revertTarget p
    let h := h.dropSpec p
    if accepted then h.hardReset p true
    else if released then h.mapPort p fun s => { s with hrOwed := true }
    else h

end Sys2Proof.Machine
end

