-- ==== Sys2Proof/Machine/Retain.lean ====
section
/-! DEFINITION. The hub-saved area of retention SRAM (R409, R570). -/

namespace Sys2Proof.Machine

open Sys2Proof.Reg

/-- A warm restart is in progress (FW_STATUS.phase RESTARTING or REVERTING). -/
def Hub.restarting (h : Hub) : Bool := h.rd FW_STATUS.phase == 3 || h.rd FW_STATUS.phase == 4

/-- Seconds since the last Battery_Status, saturating at 255 (BATT_STATUS.age). -/
def Hub.battAge (h : Hub) (p : Fin 16) : Nat :=
  match (h.port p).battClk with
  | some t => min 255 ((h.sun.clk - t) / 300000000)
  | none => 255

/-- BATT_STATUS as a read shows it. -/
def Hub.battWord (h : Hub) (p : Fin 16) : Word := BATT_STATUS.age.bits.put (h.battAge p) (h.word (portKey p 0x19))

/-- The port has a record (R570, R571): a partner is attached, or the port holds a contract. -/
def Hub.keepsRecord (h : Hub) (p : Fin 16) : Bool := h.attached p || h.prd p PD_STATUS.contract != 0

/-- A MessageID counter as a byte of the record; 0xFF stands for none received (log entry 45). -/
def idByte (i : Option (Fin 8)) : Nat := match i with | some n => n.val | none => 0xFF

/-- Core clocks as 10 ms units in 16 bits. -/
def tenMs (clocks : Nat) : Nat := min 0xFFFF (clocks / 3000000)

/-- The words of a port record (R570; log entry 45 says how the first word packs its five values). -/
def Hub.recordWords (h : Hub) (p : Fin 16) : List Word :=
  let s := h.port p
  [ BitVec.ofNat 32 (h.tc p + h.prd p PORT_STATUS.orient * 0x100 + h.prd p PD_STATUS.contract * 0x10000 +
      h.prd p PD_STATUS.power_role * 0x1000000 + h.prd p PD_STATUS.data_role * 0x2000000),
    h.word (portKey p 0x12), h.word (portKey p 0x13), h.word (portKey p 0x14), h.word (portKey p 0x15),
    BitVec.ofNat 32 (s.txId.val + idByte s.rxId * 0x100 + s.txIdP.val * 0x10000 + idByte s.rxIdP * 0x1000000),
    h.word (portKey p 0x11), h.word (portKey p 0x16), h.word (portKey p 0x18), h.word (portKey p 0x17), h.battWord p,
    h.word (portKey p 0x24), h.word (portKey p 0x25),
    BitVec.ofNat 32 (tenMs (h.sun.clk - s.lastRequest) + tenMs (h.sun.clk - s.lastEpr) * 0x10000) ]

/-- Write words from an address on. -/
def Hub.setWords (a : Nat) (ws : List Word) (h : Hub) : Hub := h.setBytes a (ws.map fun w => leBytes 4 w.toNat).flatten

/-- Write a port's record (R409, R570). -/
def Hub.saveRecord (p : Fin 16) (h : Hub) : Hub := h.setWords (0x23000040 + 0x100 * p.val) (h.recordWords p)

/-- The mask of ports with a record, as the header holds it. -/
def Hub.recordMask (h : Hub) : Nat := h.memNat 0x2300000E 2

/-- Write the hub-saved area at the stamp of a restart (R570); every other byte of it reads 0. -/
def Hub.saveAll (new : Bool) (h : Hub) : Hub :=
  let ps := h.presentPorts.filter h.keepsRecord
  let mask := ps.foldl (fun a p => a + 2 ^ p.val) 0
  let h := h.setBytes 0x23000000 (List.replicate 0x1040 0)
  let h := h.setBytes 0x23000000
    ([0x56, 0x4F, 0x4C, 0x52] ++ leBytes 4 h.seq.toNat ++ leBytes 4 h.sun.cycle.toNat ++ leBytes 2 h.sun.angle.toNat ++
      leBytes 2 mask ++ leBytes 1 (h.rd FW_SLOTS.running + 2 * new.toNat))
  h.each ps Hub.saveRecord

/-- The auto-responder updates the records as it acts (R570). -/
def Hub.refreshRecords (h : Hub) : Hub :=
  if h.restarting then
    h.each (h.presentPorts.filter fun p => h.autoHeld p && h.recordMask.testBit p.val) Hub.saveRecord
  else h

end Sys2Proof.Machine
end

