-- ==== Sys2Proof/Machine/Ops.lean ====
section
/-! DEFINITION. Operations of a whole port and of the hub that the meanings share: entry to an Unattached state, detach
and safe state (chapter 03), cuts and prompts (chapter 05), feeding in Bivouac mode (chapter 06), and what a command
settles before it ends. -/

namespace Sys2Proof.Machine

open Sys2Proof.Reg

/-! ### Attach states -/

/-- Role, Rp level, Try.SRC and messaging as an entry to an Unattached state takes them (R95, R153). -/
def Hub.latchRoles (p : Fin 16) (h : Hub) : Hub :=
  h.mapPort p fun s =>
    { s with role := h.prd p PORT_CTRL.role, rpLevel := h.prd p PORT_CTRL.rp_level,
             trySrc := h.pis p PORT_CTRL.try_src, pdOn := h.pis p PD_CTRL.pd_enable,
             rpShown := h.prd p PORT_CTRL.rp_level }

/-- A DRP's search begins as sink, as at READY (log entry 19). -/
def searchState (role : Nat) : Nat := if role = 0 then tcUnattachedSrc else tcUnattachedSnk

/-- Nothing has been seen on the lanes yet, nor VBUS. -/
def Hub.blankLanes (p : Fin 16) (h : Hub) : Hub :=
  h.mapPort p fun x => { x with laneA := .open_, laneB := .open_, sinkVbus := false }

/-- Enter an Unattached state (R95, R121) with what the lanes show: the one given if the role that is latched now is DRP,
else that of the role. -/
def Hub.searchFrom (p : Fin 16) (s : Nat) (h : Hub) : Hub :=
  let h := h.latchRoles p
  let h := ((h.pwr p PORT_STATUS.held 0).pwr p PORT_STATUS.run 1).pwr p PORT_STATUS.dead_batt 0
  let h := h.stopAllBut p []
  h.setTc p (if (h.port p).role = 2 then s else searchState (h.port p).role)

/-- Enter an Unattached state, in which the search begins anew (R95, R121). -/
def Hub.enterSearch (p : Fin 16) (s : Nat) (h : Hub) : Hub := (h.blankLanes p).searchFrom p s

/-- Enter the Unattached state of the role. -/
def Hub.enterUnattached (p : Fin 16) (h : Hub) : Hub :=
  (h.mapPort p fun x => { x with accessory := false }).enterSearch p (searchState (h.prd p PORT_CTRL.role))

/-- Nothing but the enable holds the port in REST or OFF: the rest has elapsed, the switch is not latched off (R335), no
PORT_SAFE fault of the port or HUB_SAFE fault remains latched (R458, R459), Flask mode has not expired (R394), the
port engine runs (R396), and the hub is not in Base Camp (R575). -/
def Hub.mayLeave (h : Hub) (p : Fin 16) : Bool :=
  !h.runs p .rest && !h.pis p PASS_STATUS.latched && !h.heldSafe p && h.hubSafe == 0 &&
    !h.is ENG_STATUS.flask_expired && !(h.rd PE_STATUS.halted).testBit p.val && !h.is SYS_STATUS.basecamp &&
    !h.autoHeld p

/-- Leave REST, or OFF under an enable, once nothing holds the port (R121, R125). -/
def Hub.tryLeaveRest (p : Fin 16) (h : Hub) : Hub :=
  if h.present p && h.mayLeave p then
    if h.tc p = tcRest then
      if !h.pis p PORT_STATUS.vsafe0 then h
      else
      let h := h.abortLeak p
      if h.pis p PORT_CTRL.enable then h.enterUnattached p
      else (h.setTc p tcOff).pwr p PORT_STATUS.run 0
    else if h.tc p = tcOff && h.pis p PORT_CTRL.enable && h.pis p PORT_STATUS.vsafe0 && h.is SYS_STATUS.ready then
      (h.abortLeak p).enterUnattached p
    else h
  else h

/-- Start the rest (R121). -/
def Hub.startRest (p : Fin 16) (h : Hub) : Hub := h.start p .rest (h.prd p TC_TIMER2.rest * 10000)

/-- A RELEASING entry frees, as an event of the port's own (R190, R192). -/
def Hub.freeReleasing (p : Fin 16) (h : Hub) : Hub :=
  if (portEntry h.es p [.releasing]).isSome then (h.stamp p.val).freeEntry p [.releasing] else h

/-- VBUS has reached vSafe0V on a port that discharges (R121, R124, R190): DSx is released, a RELEASING entry frees, the
port rests, or reads OFF when it drains. -/
def Hub.reachVsafe0 (p : Fin 16) (h : Hub) : Hub :=
  let h := ((h.pwr p PORT_STATUS.vsafe0 1).pwr p PORT_STATUS.vsafe5 0).dsOff p
  let h := ((h.stop p .discharge).freeReleasing p).startRest p
  if (h.port p).drain ≠ .none then
    let h := h.mapPort p fun s => { s with drain := .none }
    (h.pwr p PORT_STATUS.run 0).setTc p tcOff
  else (h.setTc p tcRest).autoLeak p

/-- Enter DISCHARGE (R119, R120); a VBUS that is at vSafe0V already takes the port on at once. -/
def Hub.enterDischarge (p : Fin 16) (h : Hub) : Hub :=
  let h := ((h.pwr p PORT_STATUS.vsafe5 0).dsOn p).setTc p tcDischarge
  let h := h.start p .discharge (h.prd p TC_TIMER2.discharge_limit * 10000)
  if h.pis p PORT_STATUS.vsafe0 then h.reachVsafe0 p else h

/-- Open the VCONN switch (R107, R119). -/
def Hub.vconnOff (p : Fin 16) (h : Hub) : Hub := h.pwr p VCONN_CTRL.vconn_on 0

/-- Close the VCONN switch onto the lane that is not the active one (R106, R242), where it is allowed and VCONN_IN is
good (R108); a switch that an overcurrent has opened stays open (R107). -/
def Hub.vconnApply (p : Fin 16) (h : Hub) : Hub :=
  let cut := if h.pis p PORT_STATUS.orient then (h.port p).isoA else (h.port p).isoB
  if h.pis p VCONN_CTRL.vconn_allow && h.vconnGood && !(h.port p).vconnTripped && !cut then
    (h.pwr p VCONN_CTRL.vconn_lane (1 - h.prd p PORT_STATUS.orient)).pwr p VCONN_CTRL.vconn_on 1
  else h

/-- Nothing of a partner stays behind (R121). -/
def Hub.forgetPartner (p : Fin 16) (h : Hub) : Hub :=
  let h := h.mapPort p fun s =>
    { s with tryDone := false, firstDone := false, drSwapDone := false, acked := [], ackedEpr := false,
             partnerSink := [], partnerSource := [], hrTimes := [], hrSilent := 0, hr := .none, discTotal := 0,
             cutKept := false, identity := .partner 0 0, frs := .none, lastRequest := 0, prevRdo := none, idStored := false,
             burst := false, minAmp := 500, attachNo := 0, battClk := none, vconnAsked := false, cableAnswered := false,
             rediscover := false, shadowMade := false, vconnTripped := false, vconnDuty := false }
  let h := (((h.setWord (portKey p 0x11) 0).setWord (portKey p 0x17) 0).setWord (portKey p 0x18) 0x7F).setWord
    (portKey p 0x19) 0xFF00FFFF
  let h := ((h.pwr p BIV_PORT.src_caps_valid 0).pwr p BIV_PORT.src_pdp 0).pwr p PORT_STATUS.partner_rp 0
  (h.pwr p PORT_STATUS.ra_seen 0).pwr p PORT_STATUS.held 0

/-- What a detach and a safe state do in one step (R119, R41, R190): the path and its switches off, timers and counters
gone, every entry released, swaps ended. -/
def Hub.dropPort (p : Fin 16) (h : Hub) : Hub :=
  let h := (h.loseFeed p).endSwap p 5
  let h := ((h.targetOff p).passOff p).vconnOff p
  let h := ((h.pwr p BC12_CTRL.short_on 0).pwr p PASS_STATUS.window 0).dsOn p
  let h := (h.releaseEntries p false).disarmFrs p
  let h := (((h.endContract p).exitEpr p).resetProtocol p).stopAllBut p []
  let h := h.forgetPartner p
  if (h.port p).drain ≠ .none then h.mapPort p fun s => { s with drain := .discharge } else h

/-- A detach is declared (R118, R119, R179, R332); a port that drains goes on draining (R126). -/
def Hub.detach (p : Fin 16) (h : Hub) : Hub :=
  if (h.port p).drain ≠ .none then (h.portEvent p .detach 0).pbump p ATTACH_CNT.detach
  else
  let inTransition := h.pis p PD_STATUS.in_transition
  let h := h.portEvent p .detach 0
  let h := h.pbump p ATTACH_CNT.detach
  let h := if h.pis p PASS_STATUS.window && h.prd p PASS_STATUS.trip_cause == tripFast then
      h.pwr p PASS_STATUS.latched 0
    else h
  let h := h.dropPort p
  let h := if inTransition then
      (h.log { ev := .detachInTransition, port := some p }).pwr p PD_EVENT.detach_in_transition 1
    else h
  h.enterDischarge p

/-- Safe state under the last stamp (R41, R119): the port passes through DISCHARGE and REST, or discharges what VBUS a port that
is not attached still reads (R313). -/
def Hub.safeNow (p : Fin 16) (h : Hub) : Hub :=
  let s := h.tc p
  if s = tcOff ∨ s = tcDeadBattery ∨ s = tcDischarge ∨ s = tcRest then
    let h := (h.targetOff p).passOff p
    if h.pis p PORT_STATUS.vsafe0 then h else h.dsOn p
  else (h.dropPort p).enterDischarge p

/-- Safe state as an event of the port's own (R456, R628). -/
def Hub.safeState (p : Fin 16) (h : Hub) : Hub := (h.stamp p.val).safeNow p

/-- Entry to an Attached state: counted, logged, numbered for the orders of R207 and R210. -/
def Hub.attach (p : Fin 16) (s : Nat) (h : Hub) : Hub :=
  let h := (h.pbump p ATTACH_CNT.attach).portEvent p .attach s
  let h := { h with attachCount := h.attachCount + 1 }
  (h.mapPort p fun x => { x with attachNo := h.attachCount }).setTc p s

/-! ### The Hamper: cuts and prompts -/

/-- Ports below a node (R184). -/
def Hub.portsUnder (h : Hub) (n : Nat) : List (Fin 16) :=
  h.presentPorts.filter fun p => n == 20 || n == p.val || n == 16 + p.val / 4

/-- The CUT entry of a limit that fell (R476). -/
def Hub.logCut (n : Nat) (h : Hub) : Hub :=
  let v := h.nodeLimit n
  h.log { ev := .cut, data := v, cont := some (leBytes 4 v ++ leBytes 1 n) }

/-- Ask for an Alert, under an explicit contract with a PD 3.x partner, if alert_en allows it (R142). -/
def Hub.alert (p : Fin 16) (m : Msg) (h : Hub) : Hub :=
  if h.pis p PD_CTRL.alert_en && h.explicit p && h.isSource p && h.pd3 p && !h.autoHeld p then h.startAms p m else h

/-- Steps 4 and 5 of R214 on one port, with its offer: over_cut, and fresh capabilities; cut_limit runs from here. -/
def Hub.markOverCut (p : Fin 16) (offer : Nat) (h : Hub) : Hub :=
  match portEntry h.es p [.committed] with
  | none => h
  | some i =>
    if offer < h.es[i].power then
      let h := if h.es[i].overCut then h else h.start p .cutLimit (h.rd AUDIT_CFG.cut_limit * 10000)
      (h.setEntry i { h.es[i] with overCut := true }).freshCaps p
    else h

/-- Step 2 of R214 on one port: a TENTATIVE Request above its offer is rolled back, an implicit one kept. -/
def Hub.cutTentative (p : Fin 16) (offer : Nat) (h : Hub) : Hub :=
  match portEntry h.es p [.tentative] with
  | none => h
  | some i =>
    if h.es[i].kind = .implicit then h.mapPort p fun s => { s with cutKept := true }
    else if offer < h.es[i].power then h.rollbackByHamper p
    else h

/-- Step 3 of R214 on one port: a COMMITTED PPS or AVS entry is trimmed to its offer or its floor (R197). -/
def Hub.cutTrim (p : Fin 16) (offer : Nat) (h : Hub) : Hub :=
  match portEntry h.es p [.committed] with
  | none => h
  | some i =>
    let w := max offer h.es[i].floor
    if h.es[i].pps && w < h.es[i].power then (h.trimEntry i w).alert p .alertCondition else h

/-- A cut of a node (R214), the ports in the arbiter's order (R32). -/
def Hub.cut (n : Nat) (h : Hub) : Hub :=
  let off := h.offers
  let ps := h.roundRobin (h.portsUnder n)
  let h := h.each ps fun p => Hub.cutTentative p off[p]
  let h := h.each ps fun p => Hub.cutTrim p off[p]
  h.each ps fun p => Hub.markOverCut p off[p]

/-- A node's limit changed from `old` (R185): a fall is logged and handled as a cut, a rise frees budget. -/
def Hub.limitChanged (n old : Nat) (h : Hub) : Hub :=
  let new := h.nodeLimit n
  if new < old then (h.logCut n).cut n else if old < new then { h with freed := true } else h

/-- Tell a port that it is prompted (R164, R165): capabilities follow, or wait until a Request that is arriving has been
answered. -/
def Hub.prompt (p : Fin 16) (power : Nat) (h : Hub) : Hub :=
  let h := (h.peEvent p PE_EVENT.prompt).log { ev := .prompt, data := power, port := some p }
  if (h.port p).arriving then h.mapPort p fun s => { s with capsDue := true }
  else if (h.port p).amsq.any isCaps then h
  else (h.freshCaps p).mapPort p fun s => { s with capsPrompt := s.amsq.any isCaps }

/-- WAITING entries in queue order (R203): class, then the arbiter's order. -/
def Hub.waitQueue (h : Hub) : List (Fin 64) :=
  sortBy (fun a b => decide (h.es[a].cls < h.es[b].cls) ||
      (h.es[a].cls == h.es[b].cls && decide (h.es[a].place < h.es[b].place)))
    (allEntries.filter fun i => h.es[i].st == .waiting)

/-- Prompt one WAITING entry if it fits (R204). -/
def Hub.promptEntry (i : Fin 64) (h : Hub) : Hub :=
  let e := h.es[i]
  if e.st = .waiting ∧ !e.prompted ∧ h.fits e.port e.power then
    let h := h.setEntry i { e with prompted := true }
    (h.start e.port .promptHold (h.rd AUDIT_CFG.prompt_hold * 1000)).prompt e.port e.power
  else h

/-- Prompt the ports of full_mask, one for each FREE entry (R206). -/
def Hub.promptFull (h : Hub) : Hub :=
  let mask := h.rd HAMPER_STATUS.full_mask
  let ps := (h.presentPorts.filter fun p => mask.testBit p.val).take (freeEntries h.es)
  h.each ps fun p h => (h.unmaskFull p).prompt p 0

/-- How far a trimmed entry's power may rise now (R217): to its contract or its offer, and no further than the room at its
port, quad and hub. -/
def Hub.restoreTo (h : Hub) (p : Fin 16) (i : Fin 64) : Nat :=
  let room := fun n => if h.unlimited n then 0xFFFFFF else h.nodeLimit n - h.usedBy n (some p)
  let target := min (h.prd p CONTRACT_PWR.power) (h.offer p)
  max h.es[i].power (min (min target (h.prd p PORT_LEDGER.port_cap)) (min (room (16 + p.val / 4)) (room 20)))

/-- A trimmed COMMITTED entry of the port that can rise. -/
def Hub.risingEntry (h : Hub) (p : Fin 16) : Option (Fin 64) :=
  match portEntry h.es p [.committed] with
  | some i =>
    if h.es[i].pps && decide (h.es[i].power < h.prd p CONTRACT_PWR.power) && decide (h.es[i].power < h.restoreTo p i) then
      some i
    else none
  | none => none

/-- Trimmed entries that can rise are handed over for a position of kind C (R217, R221). -/
def Hub.askRestores (h : Hub) : Hub :=
  h.each (h.presentPorts.filter fun p => (h.risingEntry p).isSome && !h.hasStart p true)
    fun p => Hub.assignStart p .c

/-- Budget has freed (R204, R217): the queue is served, but for one entry; nothing is prompted in Flask mode (R391). -/
def Hub.serveQueueBut (skip : Option (Fin 64)) (h : Hub) : Hub :=
  if h.is ENG_STATUS.flask then h
  else (h.each (h.waitQueue.filter fun i => some i != skip) Hub.promptEntry).askRestores

/-- Budget, or an entry, has freed (R204–R206). -/
def Hub.serveFreed (h : Hub) : Hub :=
  let budget := h.freed
  let entry := h.entryFreed
  let h := { h with freed := false, entryFreed := false }
  let h := if budget then h.serveQueueBut none else h
  if entry && !h.is ENG_STATUS.flask then h.promptFull else h

/-! ### Bivouac mode -/

/-- R255. -/
def Hub.eligible (h : Hub) (p : Fin 16) : Bool :=
  h.present p && h.tc p == tcAttachedSrc && h.isSource p && h.prd p PD_STATUS.contract == 3 &&
    (h.port p).swap.isNone && (h.port p).hr == .none && !h.pis p PD_STATUS.in_transition &&
    h.pis p SWAP_CTRL.biv_eligible && h.prd p SWAP_CTRL.frs_req != 0 && h.pis p PARTNER_INFO.batteries &&
    h.prd p PARTNER_INFO.frs_current != 0 && h.pis p BIV_PORT.src_caps_valid && h.pis p PD_STATUS.cable_5a &&
    !h.pis p SWAP_STATUS.feeding

/-- A reading of the pack's capacity that R256 uses. -/
def Hub.battGood (h : Hub) (p : Fin 16) : Bool := h.pis p BATT_STATUS.valid && decide (h.battAge p ≤ 60)

/-- Ports in the order of R256. -/
def Hub.ranked (h : Hub) (ps : List (Fin 16)) : List (Fin 16) :=
  sortBy (fun a b => (h.battGood a && !h.battGood b) ||
      (h.battGood a == h.battGood b && decide (h.prd b BATT_STATUS.capacity < h.prd a BATT_STATUS.capacity))) ps

/-- The eligible ports, the first by rank first. -/
def Hub.eligiblePorts (h : Hub) : List (Fin 16) := h.ranked (h.presentPorts.filter h.eligible)

/-- Ports that feed VHUB. -/
def Hub.feedingPorts (h : Hub) : List (Fin 16) := h.presentPorts.filter fun p => h.pis p SWAP_STATUS.feeding

/-- A feeding port's contribution (R264). -/
def Hub.contribution (h : Hub) (p : Fin 16) : Nat :=
  if h.explicit p then h.prd p CONTRACT_PWR.power else powerOf 500 (frsCurrent (h.prd p SWAP_CTRL.frs_req))

/-- The island budget of the ports that feed (R257, R264). -/
def Hub.islandBudget (h : Hub) : Nat :=
  (h.feedingPorts.foldl (fun a p => a + h.contribution p) 0) * h.rd BIVOUAC_CFG.island_eff / 100

/-- BIVOUAC_STATUS shows which ports feed. -/
def Hub.showFeed (h : Hub) : Hub :=
  (h.wr BIVOUAC_STATUS.feed_mask (h.feedingPorts.foldl (fun a p => a + 2 ^ p.val) 0)).wr BIVOUAC_STATUS.feeding
    h.feedingPorts.length

/-- Start a Fast Role Swap as initial source on a port (R257, R260, R309, R313): its entries go, the stage drains in
reverse mode, the pass switch opens, DSx is on, the lane is driven low; at most the frs_req current will be drawn. -/
def Hub.startFeed (p : Fin 16) (h : Hub) : Hub :=
  let h := h.releaseEntries p false
  let h := ((h.endContract p).exitEpr p).dropSpec p
  let h := h.mapPort p fun s =>
    { s with txq := [], amsq := [], pending := none, asked := none, arriving := false, chunkOut := none, capsDue := false, capsPrompt := false, eprEntry := false, txSlots := [],
             frs := .signalling }
  let h := h.stopAllBut p []
  let h := ((h.pwr p BC12_CTRL.short_on 0).stageReverse p).passOff p
  let a := frsCurrent (h.prd p SWAP_CTRL.frs_req)
  let h := ((h.pwr p STAGE_ILIM.ilim_set a).mapPort p fun s => { s with ilimEff := a }).dsOn p
  let h := ((h.pwr p SWAP_STATUS.feeding 1).pwr p SWAP_STATUS.busy 1).pwr p SWAP_STATUS.last 4
  (((h.pwr p SWAP_STATUS.result 0).pwr p PD_STATUS.ams 3).pwr p PD_STATUS.wait_held 0).pwr p PD_STATUS.sink_tx_ng 0

/-- The source ports send the Alert of Source Input Change (R142, R266, R270). -/
def Hub.alertSources (h : Hub) : Hub := h.each (h.roundRobin h.sourcePorts) fun p => Hub.alert p .alertSource

/-- Every feeding port holds its island contract, or has been lost: phase reads ISLAND (R266). -/
def Hub.checkIsland (h : Hub) : Hub :=
  if h.rd BIVOUAC_STATUS.phase = 1 && h.feedingPorts.all h.explicit then
    (h.wr BIVOUAC_STATUS.phase 2).alertSources
  else h

/-- The island budget takes its new value (R264): a change of the hub limit, stamped from the Hamper. -/
def Hub.newIslandBudget (h : Hub) : Hub :=
  let old := h.hubLimit
  let b := h.islandBudget
  if h.rd ISLAND_BUDGET.budget = b then h
  else ((h.stamp 19).wr ISLAND_BUDGET.budget b).limitChanged 20 old

/-- The message is a swap request of the hub's own. -/
def isSwapRequest : Msg → Bool
  | .swapRequest _ => true
  | _ => false

/-- A port that stays sink gives up the implicit claim that a PR_Swap of its own needed (R198, R237). -/
def Hub.dropSwapClaim (p : Fin 16) (h : Hub) : Hub :=
  if h.isSource p then h
  else
    match portEntry h.es p [.tentative, .waiting] with
    | some i =>
      if h.es[i].kind = .implicit then
        (((h.rollbackTentative p).freeEntry p [.waiting]).answer p 4 i.val 0).pwr p PORT_STATUS.held 0
      else h
    | none => h

/-- The hub asks for a swap of its own (R228–R230), in place of one that has not been sent. -/
def Hub.requestSwap (p : Fin 16) (k : SwapKind) (h : Hub) : Hub :=
  let code := match k with | .pr => 1 | .dr => 2 | .vconn => 3
  let h := if (h.port p).swap.isSome then (h.stop p .swapWait).dropSwapClaim p else h
  let h := h.mapPort p fun s => { s with swap := none, amsq := s.amsq.filter fun m => !isSwapRequest m }
  let h := (h.pwr p SWAP_STATUS.last code).pwr p SWAP_STATUS.result 0
  let ask := fun h : Hub =>
    (h.mapPort p fun s => { s with swap := some ⟨k, true, .requested, 0⟩ }).startAms p (.swapRequest k)
  if k = .pr && !h.isSource p then
    let h := h.claimLevels p (h.port p).rpLevel
    if h.crd p PE_ANSWER.answer = 1 then ask h
    else h.mapPort p fun s => { s with swap := some ⟨.pr, true, .granting, 0⟩ }
  else ask h

/-- Ports still to be returned, in the order of R270: the lowest rank first. An abandoned return is sent again (R234); any
other result ends the port's turn. -/
def Hub.returnOrder (h : Hub) : List (Fin 16) :=
  (h.ranked (h.feedingPorts.filter fun p =>
    !(h.prd p SWAP_STATUS.last == 1 && h.prd p SWAP_STATUS.result != 0 &&
      h.prd p SWAP_STATUS.result != 4))).reverse

/-- A PR_Swap is in progress on some port. -/
def Hub.prSwapping (h : Hub) : Bool :=
  h.presentPorts.any fun p => match (h.port p).swap with | some w => w.kind == .pr | none => false

/-- A port that still feeds when Bivouac mode ends, since its swap has failed, draws nothing any more (R231). -/
def Hub.stopFeed (p : Fin 16) (h : Hub) : Hub := ((h.loseFeed p).targetOff p).passOff p

/-- Return the next feeding port once the one before is done and its own Fast Role Swap is over, or end Bivouac mode after
the last (R270). -/
def Hub.returnNext (h : Hub) : Hub :=
  if h.rd BIVOUAC_STATUS.phase ≠ 3 ∨ h.prSwapping then h
  else
    match h.returnOrder with
    | p :: _ => if (h.port p).swap.isSome || (h.port p).frs != .feeding then h else h.requestSwap p .pr
    | [] =>
      let h := (h.wr BIVOUAC_STATUS.phase 0).wr ISLAND_BUDGET.budget 0
      let h := h.each h.feedingPorts Hub.stopFeed
      ({ h with returnPending := false }.event 19 { ev := .bivouacExited }).alertSources

/-- Start the return to mains, stamped from a requester (R185, R269, R270): the hub limit follows R184 again; the first
port follows when the command is settled. -/
def Hub.startReturn (r : Nat) (h : Hub) : Hub :=
  let h := h.stamp r
  let old := h.hubLimit
  let h := (h.wr BIVOUAC_STATUS.phase 3).wr ISLAND_BUDGET.budget 0
  let h := { h with returnPending := false }.limitChanged 20 old
  h.each h.feedingPorts fun p => Hub.pwr p SWAP_STATUS.result 0

/-- Swap up to `n` eligible ports in, the first by rank first (R265). -/
def Hub.refill : Nat → Hub → Hub
  | 0, h => h
  | n + 1, h =>
    match h.eligiblePorts with
    | p :: _ => if h.feedingPorts.length < h.rd BIVOUAC_CFG.island_max then ((h.startFeed p).showFeed).refill n else h
    | [] => h

/-- `n` feeding ports have been lost (R265): for each of them the next eligible port is swapped in, its load released first,
and the fall of the island budget is a cut; during the return the next port follows. -/
def Hub.feedLost (n : Nat) (h : Hub) : Hub :=
  let h := h.showFeed
  if h.islanded then (h.refill n).newIslandBudget.checkIsland else h

/-! ### What a command settles before it ends -/

/-- Ports that wait to be put into safe state, each once, in ascending order (R628). -/
def Hub.dueOrder (h : Hub) : List (Fin 16) := h.presentPorts.filter h.safeDue.contains

/-- Work off what the command has called for: overwrites that latch source 53 (R475), safe states (R628), lost feeding
ports (R265), Alerts owed for trims (R142), and what freed in the ledger (R204, R206). -/
def Hub.settle : Nat → Hub → Hub
  | 0, h => h
  | fuel + 1, h =>
    if h.overruns ≠ 0 then (({ h with overruns := h.overruns - 1 } : Hub).latchMonitor 53).settle fuel
    else if h.safeDue ≠ [] then (({ h with safeDue := [] } : Hub).each h.dueOrder Hub.safeState).settle fuel
    else if h.lostFeeds ≠ [] then (({ h with lostFeeds := [] } : Hub).feedLost h.lostFeeds.length).settle fuel
    else if h.alertsDue ≠ [] then
      (({ h with alertsDue := [] } : Hub).each h.alertsDue fun p => Hub.alert p .alertCondition).settle fuel
    else if h.freed || h.entryFreed then h.serveFreed.settle fuel
    else h

/-- The states of a port that looks for a partner. -/
def searching (s : Nat) : Bool :=
  s == tcUnattachedSnk || s == tcAttachWaitSnk || s == tcUnattachedSrc || s == tcAttachWaitSrc || s == tcTrySrc ||
    s == tcTryWaitSnk

/-- A port that looks for a partner runs the detection period of R98. -/
def Hub.enterWatchState (p : Fin 16) (h : Hub) : Hub :=
  ((h.stopAllBut p []).mapPort p fun s => { s with laneA := .open_, laneB := .open_ }).setTc p tcWatch

/-- Ports follow the power mode (R98, R370): in Watch mode they run the detection period, in Run mode they search. -/
def Hub.followMode (h : Hub) : Hub :=
  match h.power with
  | .run => h.each (h.presentPorts.filter fun p => h.tc p == tcWatch) Hub.enterUnattached
  | .watch => h.each (h.presentPorts.filter fun p => searching (h.tc p)) Hub.enterWatchState
  | _ => h

/-- The hub runs: neither held in reset nor in Ship mode (R344, R371). -/
def Hub.up (h : Hub) : Bool := h.power == .run || h.power == .watch

/-- What a command's change of the hub settles before the command ends. -/
def Hub.finish (h : Hub) : Hub := (((h.settle 200).returnNext).settle 200).followMode.refreshRecords

/-- Apply a change of the hub, settle it, and reset the engines that it releases (R412). -/
def applyHub (f : Hub → Hub) (s : State) : State :=
  let h := (f s.hub).finish
  { s with
    hub := { h with resets := [] }
    engines := h.resets.foldl (fun es r => es.set r.1 (Engine.fresh r.2 h.sun.clk)) s.engines }

/-- The effect of a command on the hub: none while it is held in reset or in Ship mode (log entry 7). -/
def onHub (f : Hub → Hub) (s : State) : State := if s.hub.up then applyHub f s else s

/-- The effect of a command on one port: none on a port that the part lacks (R1). -/
def onPort (p : Fin 16) (f : Hub → Hub) (s : State) : State := onHub (fun h => if h.present p then f h else h) s

end Sys2Proof.Machine
end

