-- ==== Sys2Proof/Machine/PdRx.lean ====
section
/-! DEFINITION. Receiving on a port (R129–R139), the answers that several messages share (R141), what the first
contracts of an attach start (R142, R150, R151, R241, R244, R245), and the hub's requests as sink (R169, R263). -/

namespace Sys2Proof.Machine

open Sys2Proof.Reg

/-! ### The receive ring -/

/-- The data bytes of a frame. -/
def dataBytes (f : RxFrame) : List Byte := (f.data.map fun w => leBytes 4 w.toNat).flatten

/-- The data of a message whose last chunk a frame is, after the bytes assembled before (R138): at most 260 bytes of an
extended message. -/
def messageBytes (before : List Byte) (f : RxFrame) : List Byte :=
  if f.extended then (before ++ dataBytes f).take (min f.size 260) else dataBytes f

/-- The bytes of a message in a ring slot: message header, any extended header, data. -/
def frameBytes (before : List Byte) (f : RxFrame) : List Byte :=
  leBytes 2 f.header.toNat ++
    (if f.extended then leBytes 2 (f.size % 512 + f.chunked.toNat * 0x8000) else []) ++ messageBytes before f

/-- Write a message into the next free ring slot (R136, R137). -/
def Hub.ringWrite (p : Fin 16) (f : RxFrame) (h : Hub) : Hub :=
  let s := h.port p
  let slot := (s.ringFirst.val + s.ringCount) % 8
  let bytes := frameBytes s.chunkData f
  let desc := (if f.sop = .sopP then 0x1000000 else 0) + f.extended.toNat * 0x10000 + f.chunked.toNat * 0x20000 +
    bytes.length % 0x10000
  let h := h.setBytes (msgAddr p (288 * slot)) (leBytes 4 desc ++ leBytes 4 h.seq.toNat ++ bytes)
  h.mapPort p fun s => { s with ringCount := s.ringCount + 1 }

/-- Answer Not_Supported, or Reject to a partner at PD 2.0 (R133, R140). -/
def Hub.refuse (p : Fin 16) (h : Hub) : Hub := h.send p (if h.pd3 p then .notSupported else .reject)

/-- The MessageID last received on a frame's SOP type (R131). -/
def Hub.lastId (h : Hub) (p : Fin 16) (f : RxFrame) : Option (Fin 8) :=
  if f.sop = .sopP then (h.port p).rxIdP else (h.port p).rxId

/-- PD_STATUS.wait_held of a source shows whether a WAITING entry is queued. -/
def Hub.showWait (p : Fin 16) (h : Hub) : Hub :=
  h.pwr p PD_STATUS.wait_held (portEntry h.es p [.waiting]).isSome.toNat

/-- Discard speculative frames and roll back what they were built on (R158): nothing of it is counted or logged. -/
def Hub.discardSpec (p : Fin 16) (h : Hub) : Hub :=
  if (h.port p).spec.isSome then
    let h := match portEntry h.es p [.tentative] with
      | some i => if h.es[i].spec then h.rollbackTentative p else h
      | none => h
    let h := match portEntry h.es p [.waiting] with
      | some i => if h.es[i].spec then (h.setLedger (h.ledger.rollback h.es[i].owner)).noteFreed h.es else h
      | none => h
    (h.dropSpec p).showWait p
  else h

/-- No Request is arriving any more. -/
def Hub.arrived (p : Fin 16) (h : Hub) : Hub := h.mapPort p fun s => { s with arriving := false }

/-- What was arriving is discarded (R158, R165): a prompt that waited for it goes on, and so does what else waited. -/
def Hub.dropArrival (p : Fin 16) (h : Hub) : Hub := (((h.arrived p).discardSpec p).releasePrompt p).pump p

/-- Keep the MessageID of a frame (R131). -/
def Hub.keepId (p : Fin 16) (f : RxFrame) (h : Hub) : Hub :=
  h.mapPort p fun s => if f.sop = .sopP then { s with rxIdP := some f.id } else { s with rxId := some f.id, hrSilent := 0 }

/-- A frame is accepted (R129, R131): counted, its MessageID and the partner's revision kept, stamped, and written to
the ring. -/
def Hub.acceptFrame (p : Fin 16) (f : RxFrame) (h : Hub) : Hub :=
  let h := (h.pbump p PD_CNT1.rx_good).keepId p f
  let h := if f.sop = .sop then h.pwr p PD_STATUS.partner_rev (if f.rev = .rev2 then 1 else 2) else h
  let h := if h.eprMode p && h.isSource p then h.start p .eprSource 900000 else h
  let h := if h.eprMode p then h.mapPort p fun s => { s with lastEpr := h.sun.clk } else h
  ((h.stamp p.val).peEvent p PE_EVENT.rx).ringWrite p f

/-- A chunk that is followed by more (R138): its data joins the assembly, of at most 260 bytes, and the next one is asked for. -/
def Hub.joinChunk (p : Fin 16) (f : RxFrame) (h : Hub) : Hub :=
  let h := (h.pbump p PD_CNT1.rx_good).keepId p f
  let h := h.mapPort p fun s => { s with chunkData := (s.chunkData ++ (dataBytes f).take 26).take 260 }
  ((h.pwr p PD_STATUS.ams 6).start p .chunk 27000).send p .chunkRequest

/-- The partner asks for the next chunk of a message of the hub's: an extended header without data (R139). -/
def isChunkRequest (f : RxFrame) : Bool := f.extended && f.chunked && f.size == 0

/-- Send the next chunk of the extended message in transfer (R139); a request for one that is not in transfer is refused. -/
def Hub.nextChunk (p : Fin 16) (h : Hub) : Hub :=
  match (h.port p).chunkOut with
  | some (.sourceCaps _ pdos, n) => (h.pwr p PD_STATUS.ams 6).send p (.chunk true pdos n)
  | some (.sinkCaps _ pdos, n) => (h.pwr p PD_STATUS.ams 6).send p (.chunk false pdos n)
  | _ => h.refuse p

/-- A prompt that waited for a Request goes on, unless the answer to that Request is on its way (R165). -/
def Hub.settlePrompt (p : Fin 16) (h : Hub) : Hub :=
  if (h.port p).txq.any fun m => m == .wait || m == .reject || m == .acceptTransition then h else h.releasePrompt p

/-- A whole message opens (R129, R136, R138): it is counted, stamped and stored with the chunks before it, reassembly is done,
and a transfer of the hub's own that it does not ask to go on is given up. -/
def Hub.openFrame (p : Fin 16) (f : RxFrame) (h : Hub) : Hub :=
  let h := h.mapPort p fun s =>
    { s with chunkData := if f.extended && f.chunked then s.chunkData else [],
             chunkOut := if isChunkRequest f then s.chunkOut else none }
  let h := (h.acceptFrame p f).stop p .chunk
  if h.prd p PD_STATUS.ams = 6 then h.pwr p PD_STATUS.ams 0 else h

/-- A message has been dealt with: a prompt that waited for it, and an AMS of the hub's own, follow (R135, R165). -/
def Hub.closeFrame (p : Fin 16) (h : Hub) : Hub :=
  ((h.mapPort p fun s => { s with chunkData := [] }).settlePrompt p).pump p

/-- A frame with a good CRC arrives (R129–R133, R137–R139): refused without a ring slot, acknowledged and discarded if it
repeats a MessageID, else accepted; `auto` answers it while the auto-responder holds the port (R569), else `act`. An
unchunked extended message of more than 26 bytes is not supported. -/
def Hub.receive (p : Fin 16) (f : RxFrame) (auto act : Hub → Hub) (h : Hub) : Hub :=
  if !h.attached p || !(h.port p).pdOn || f.rev == .rev1 then h
  else if f.sop = .sopPP ∨ f.sop = .dbg ∨ (f.sop = .sopP ∧ !h.vconnSource p) then h.pbump p PD_CNT3.rx_ignored
  else if 8 ≤ (h.port p).ringCount then (h.pbump p PD_CNT3.rx_overrun).dropArrival p
  else if h.lastId p f = some f.id then (h.pbump p PD_CNT1.rx_good).dropArrival p
  else if f.extended && f.chunked && f.moreChunks then (h.arrived p).joinChunk p f
  else
    let h := (h.arrived p).openFrame p f
    let h := if h.autoHeld p then auto h
      else if isChunkRequest f then (h.cancelOwn p).nextChunk p
      else if f.extended && !f.chunked && 26 < f.size then (h.cancelOwn p).refuse p
      else act (h.cancelOwn p)
    h.closeFrame p

/-! ### Messages outside an AMS -/

/-- Accept, Reject, Wait or PS_RDY that no AMS expects (R141). -/
def Hub.unexpected (p : Fin 16) (h : Hub) : Hub := h.sendSoftReset p

/-- Send Source_Capabilities, or EPR_Source_Capabilities in EPR mode, as an answer; not on a silent port (R152). The
auto-responder sends those last acknowledged (R569). -/
def Hub.answerCaps (p : Fin 16) (h : Hub) : Hub :=
  if h.pis p PD_STATUS.pd_silent then h
  else
    let m := if h.autoHeld p then .sourceCaps (h.port p).ackedEpr (h.port p).acked
      else h.fillCaps p (.sourceCaps (h.eprMode p) [])
    (h.pwr p PD_STATUS.ams 1).send p m

/-- After the Accept of a Soft_Reset the source sends Source_Capabilities, before any other AMS of its own (R174), with
collision avoidance as R134 says (log entry 21). -/
def Hub.capsAfterReset (p : Fin 16) (h : Hub) : Hub :=
  let h := h.gotReply p
  if h.autoHeld p then h.answerCaps p
  else if h.pis p PD_STATUS.pd_silent then h.endAms p
  else
    ((h.pwr p PD_STATUS.ams 0).mapPort p fun s =>
      { s with amsq := .sourceCaps (h.eprMode p) [] :: s.amsq.filter fun m => !isCaps m }).pump p

/-! ### Cable and partner discovery (R150, R151, R172) -/

/-- One attempt of Discover Identity on SOP'. -/
def Hub.tryCable (p : Fin 16) (h : Hub) : Hub :=
  (h.pwr p PD_STATUS.ams 5).send p .discoverCable

/-- Answer an EPR entry once the cable is known (R171, chapter 04 "EPR entry"): causes 1 cable not EPR capable, 2 EPR
Capable not set in the RDO, 3 source failed to become VCONN source, 4 source unable (log entry 18). -/
def Hub.finishEprEntry (p : Fin 16) (h : Hub) : Hub :=
  let h := (h.mapPort p fun s => { s with eprEntry := false }).pwr p PD_STATUS.ams 4
  let rdoOk := match (h.port p).deal with | some d => d.rdo.eprCapable | none => false
  if !h.pis p PD_CTRL.epr_allow || !h.part.large || h.prd p PD_STATUS.contract != 2 then h.send p (.eprFailed 4)
  else if !rdoOk then h.send p (.eprFailed 2)
  else if !h.pis p PD_STATUS.cable_epr then h.send p (.eprFailed 1)
  else h.send p .eprSucceeded

/-- Discovery of the cable is over (R150): the EPR entry, or the first capabilities, go on. -/
def Hub.afterDiscovery (p : Fin 16) (h : Hub) : Hub :=
  let h := h.stop p .discover
  if (h.port p).eprEntry then h.finishEprEntry p
  else if h.isSource p && !h.explicit p then (h.pwr p PD_STATUS.ams 0).startAms p (.sourceCaps false [])
  else h.endAms p

/-- Discover the cable with up to `n` attempts if the port may (R150, R151), else go on. -/
def Hub.discoverCable (p : Fin 16) (n : Nat) (h : Hub) : Hub :=
  if h.vconnSource p && (h.port p).discTotal < 20 then
    (h.mapPort p fun s => { s with discTries := 3 - n }).tryCable p
  else h.afterDiscovery p

/-- What follows the commit of an implicit claim (R112, R150): Discover Identity on SOP' with VCONN on where Ra was seen, or
where a Hard Reset has made the cable unknown again (R175, R243), else the first Source_Capabilities; nothing with
messaging off or after the second silent Hard Reset (R152, R153). -/
def Hub.firstCaps (p : Fin 16) (h : Hub) : Hub :=
  if !(h.port p).pdOn || h.autoHeld p then h
  else if 2 ≤ (h.port p).hrSilent then h.pwr p PD_STATUS.pd_silent 1
  else if (h.pis p PORT_STATUS.ra_seen || (h.port p).rediscover) && h.vconnSource p then
    (h.mapPort p fun s => { s with rediscover := false }).discoverCable p 3
  else h.startAms p (.sourceCaps false [])

/-! ### What a first contract starts -/

/-- A VCONN_Swap that the hub needs may start (R244). -/
def Hub.mayTakeVconn (h : Hub) (p : Fin 16) : Bool := h.pis p VCONN_CTRL.vconn_allow && h.vconnGood

/-- The swaps that the hub asks for after a first explicit contract: DR_Swap once per attach with dr_policy 2 (R241),
VCONN_Swap once with vconn_policy 2 where no Ra was seen (R244). -/
def Hub.ownSwaps (p : Fin 16) (h : Hub) : Hub :=
  if !h.explicit p || (h.port p).swap.isSome || h.pis p SWAP_STATUS.feeding then h
  else if h.prd p SWAP_CTRL.dr_policy = 2 ∧ h.prd p PD_STATUS.data_role = 0 ∧ !(h.port p).drSwapDone then
    (h.mapPort p fun s => { s with drSwapDone := true }).requestSwap p .dr
  else if h.prd p SWAP_CTRL.vconn_policy = 2 ∧ !h.pis p PORT_STATUS.ra_seen ∧ !h.vconnSource p ∧ h.mayTakeVconn p ∧
      !(h.port p).vconnAsked then
    (h.mapPort p fun s => { s with vconnAsked := true }).requestSwap p .vconn
  else h

/-- What an explicit contract as source starts (R142, R151): after the first one the messages of R142, and after every
one an attempt at a cable that has not answered. -/
def Hub.afterSourceContract (p : Fin 16) (first : Bool) (h : Hub) : Hub :=
  let h := if first then
      let h := if h.pis p PD_CTRL.id_discover then h.startAms p .discoverPartner else h
      let h := h.startAms p .getSinkCap
      if h.pd3 p then h.startAms p .getSinkCapExt else h
    else h
  let h := if h.vconnSource p && !(h.port p).cableAnswered && decide ((h.port p).discTotal < 20) then
      (h.mapPort p fun s => { s with discTries := 2 }).startAms p .discoverCable
    else h
  if first then h.ownSwaps p else h

/-- Arm Fast Role Swap as initial sink, or log that it cannot be (R245, R246). -/
def Hub.armFrs (p : Fin 16) (h : Hub) : Hub :=
  if h.tc p = tcAttachedSnk ∧ h.explicit p ∧ h.pis p SWAP_CTRL.frs_sink_en ∧ !h.pis p SWAP_STATUS.feeding ∧
      h.prd p PARTNER_INFO.frs_current ≠ 0 ∧ !h.pis p SWAP_STATUS.frs_armed ∧ h.pd3 p then
    let h := h.claim p { kind := .request, power := powerOf 500 (frsCurrent (h.prd p PARTNER_INFO.frs_current)),
                         standby := true }
    if h.crd p PE_ANSWER.answer = 1 then
      ((h.pwr p SWAP_STATUS.frs_armed 1).armStage p).passOn p
    else h.portEvent p .frsNotArmed 0
  else h

/-! ### Requests as sink -/

/-- The number of a PDO's position and the PDO, positions from 1. -/
def numbered (pdos : List Pdo) : List (Nat × Pdo) := (List.range pdos.length).zip pdos |>.map fun x => (x.1 + 1, x.2)

/-- The PDO of highest value, the first of equals. -/
def bestPdo (value : Pdo → Nat) : List (Nat × Pdo) → Option (Nat × Pdo)
  | [] => none
  | x :: l => match bestPdo value l with
    | some y => if value x.2 < value y.2 then some y else some x
    | none => some x

/-- The request for a PDO at a voltage of at most `cap` 0.1 W, in steps of the PDO's kind. -/
def sinkRdo (x : Nat × Pdo) (volt cap : Nat) : Rdo :=
  rdoOf x.1 x.2 volt (min x.2.amp (currentAt cap volt (if x.2.kind = .pps then 50 else 10))) false

/-- The request of R169: the highest-power fixed PDO whose voltage lies in the port's sink window, within its power;
object 1 where none does (the contract that keeps 5 V). -/
def Hub.chooseSink (h : Hub) (p : Fin 16) (pdos : List Pdo) : Option (Rdo × Pdo) :=
  let c := h.card.ports[p]
  let fits := (numbered pdos).filter fun x =>
    x.2 != Pdo.zero && x.2.kind == .fixed && decide (c.snkLow ≤ x.2.vmax) && decide (x.2.vmax ≤ c.snkHigh)
  match bestPdo (fun d => min (pdoPower d) c.snkPower) fits with
  | some x => some (sinkRdo x x.2.vmax c.snkPower, x.2)
  | none => match pdos with
    | d :: _ => some (sinkRdo (1, d) d.vmax c.snkPower, d)
    | [] => none

/-- The request of a feeding port (R263): the highest-power PPS PDO at island_volt or its highest voltage, else the
highest-power fixed PDO within pack_cap; with none within it, object 1 at the current that pack_cap leaves (DESIGN CHOICE,
log entry 112). -/
def Hub.chooseFeed (h : Hub) (pdos : List Pdo) : Option (Rdo × Pdo) :=
  let cap := h.rd BIVOUAC_CFG2.pack_cap
  let all := (numbered pdos).filter fun x => x.2 != Pdo.zero
  match bestPdo pdoPower (all.filter fun x => x.2.kind == .pps) with
  | some x => some (sinkRdo x (min (h.rd BIVOUAC_CFG2.island_volt * 10) x.2.vmax) cap, x.2)
  | none =>
    match bestPdo pdoPower (all.filter fun x => x.2.kind == .fixed && decide (pdoPower x.2 ≤ cap)) with
    | some x => some (sinkRdo x x.2.vmax cap, x.2)
    | none => match pdos with
      | d :: _ => some (sinkRdo (1, d) d.vmax cap, d)
      | [] => none

/-- Send a request as sink (R169, R263) and remember what it asks for. -/
def Hub.sinkRequest (p : Fin 16) (r : Rdo) (d : Pdo) (epr : Bool) (h : Hub) : Hub :=
  let volt := requestVolt d r
  let deal : Deal := { rdo := r, pdo := d, epr := epr, volt := volt, amp := r.opCur, power := requestPower d r,
                       raise := false }
  let h := (h.mapPort p fun s => { s with asked := some deal }).pwr p PD_STATUS.ams 2
  h.send p (if epr then .eprRequest r.raw (pdoWord false d) else .request r.raw)

/-- The contract that the hub asked for as sink takes force (R170, R300, R302): its limit and kind reach the stage, its
timers start; a feeding port's contribution changes (R264, R266), another port learns whether it may arm Fast Role Swap
(R245), or arms it. -/
def Hub.enterSinkContract (p : Fin 16) (d : Deal) (h : Hub) : Hub :=
  let first := !h.explicit p
  let h := (h.enterContract p d).pwr p PD_EVENT.contract_new 1
  let h := (h.writeIlim p (contractLimit d.pdo d.rdo)).pwr p STAGE_CTRL.cl_kind (pdoKindCode d.pdo.kind)
  let h := h.portEvent p .contractNew d.power
  let h := if d.pdo.kind = .fixed then h.stop p .sinkPps else h.start p .sinkPps 8000000
  let h := if h.eprMode p then h.start p .sinkEpr 375000 else h
  let h := h.endAms p
  if h.pis p SWAP_STATUS.feeding then
    if h.islanded then h.newIslandBudget.checkIsland else h
  else
    let h := if first && h.pd3 p then h.startAms p .getSinkCap else h
    (if first then h.ownSwaps p else h).armFrs p

end Sys2Proof.Machine
end

