-- ==== Sys2Proof/Machine/Swaps.lean ====
section
/-! DEFINITION. Role swaps and Fast Role Swap as initial sink (chapter 06): answers, the steps that a message, its
GoodCRC or a voltage takes, and the meanings of the swap commands. -/

namespace Sys2Proof.Machine

open Sys2Proof.Reg

/-! ### Operations -/

/-- The port's SWAP_STATUS.last code of a swap. -/
def SwapKind.code : SwapKind → Nat
  | .pr => 1
  | .dr => 2
  | .vconn => 3

/-- Go to a step of the swap in progress. -/
def Hub.swapStep (p : Fin 16) (step : SwapStep) (h : Hub) : Hub :=
  h.mapPort p fun s => { s with swap := s.swap.map fun w => { w with step := step } }

/-- A swap is done (SWAP_STATUS, SWAP_CNT). -/
def Hub.swapDone (p : Fin 16) (k : SwapKind) (h : Hub) : Hub :=
  let h := match k with
    | .pr => h.pbump p SWAP_CNT.pr
    | .dr => h.pbump p SWAP_CNT.dr
    | .vconn => h.pbump p SWAP_CNT.vconn
  (h.endSwap p 1).pwr p PD_STATUS.ams 0

/-- A PR_Swap or Fast Role Swap misses a limit (R239): SWAP_FAILED, result FAILED and safe state. -/
def Hub.swapFailed (p : Fin 16) (h : Hub) : Hub := ((h.portEvent p .swapFailed 0).endSwap p 5).safeNow p

/-- Turn VBUS on under an implicit claim (R111, R238, R300): forward mode, 5.00 V and the limit of the granted level held
until a start of kind B, with cl_kind of a fixed PDO. -/
def Hub.turnOn (p : Fin 16) (h : Hub) : Hub :=
  let h := ((h.dsOff p).pwr p STAGE_CTRL.cl_kind 0).stageForward p
  let h := (h.writeVset p 500).writeIlim p (implicitLimit (h.port p).implicitTry)
  h.assignStart p .b

/-- The implicit claim commits when VBUS is first within vSafe5V (R112, R302): an implicit contract; a kept claim above its
offer is marked (R214). -/
def Hub.commitImplicit (p : Fin 16) (h : Hub) : Hub :=
  let h := (h.stamp p.val).commitPort p false
  let h := (h.pwr p PD_STATUS.contract 1).pwr p STAGE_CTRL.cl_kind 0
  if (h.port p).cutKept then (h.mapPort p fun s => { s with cutKept := false }).markOverCut p (h.offer p) else h

/-- An own swap request is outstanding. -/
def Hub.ownRequest (h : Hub) (p : Fin 16) : Bool :=
  match (h.port p).swap with
  | some w => w.own && (w.step == .requested || w.step == .granting)
  | none => false

/-- The hub as sink abandons its own swap request (R233): a queued frame is cancelled, a reply to one that was sent is
discarded. -/
def Hub.abandonSwap (p : Fin 16) (h : Hub) : Hub :=
  let sent := h.runs p .senderResponse
  let h := (h.endSwap p 4).dropSwapClaim p
  let h := h.mapPort p fun s =>
    { s with stale := sent, txq := s.txq.filter (fun m => !isSwapRequest m),
             amsq := s.amsq.filter fun m => !isSwapRequest m }
  let h := if (h.port p).txq.isEmpty then h.stop p .tReceive else h
  (h.gotReply p).pwr p PD_STATUS.ams 0

/-- Answers of R228. -/
inductive SwapAnswer where
  | accept
  | reject
  | wait
  deriving DecidableEq, Repr

/-- A transition is pending or in progress, a claim is outstanding, or another swap runs. -/
def Hub.swapBlocked (h : Hub) (p : Fin 16) : Bool :=
  h.pis p PD_STATUS.in_transition || (h.port p).pending.isSome || (h.port p).spec.isSome ||
    (portEntry h.es p [.tentative]).isSome || (h.port p).swap.isSome

/-- The policy field of a swap. -/
def Hub.swapPolicy (h : Hub) (p : Fin 16) : SwapKind → Nat
  | .pr => h.prd p SWAP_CTRL.pr_policy
  | .dr => h.prd p SWAP_CTRL.dr_policy
  | .vconn => h.prd p SWAP_CTRL.vconn_policy

/-- The power role that a PR_Swap would give the port is one that its role allows (0 source, 1 sink, 2 both). -/
def Hub.roleAllows (h : Hub) (p : Fin 16) : SwapKind → Bool
  | .pr => (h.port p).role == 2 || (h.port p).role == (if h.isSource p then 1 else 0)
  | _ => true

/-- The table of R228. -/
def Hub.swapAnswer (h : Hub) (p : Fin 16) (k : SwapKind) : SwapAnswer :=
  if h.ownRequest p then .wait
  else if h.swapBlocked p then .wait
  else if k = .pr ∧ h.pis p SWAP_STATUS.feeding then
    (if h.rd BIVOUAC_STATUS.phase = 3 then .accept else .reject)
  else if (k = .pr ∨ k = .vconn) ∧ h.eprMode p ∧ h.vconnSource p then .reject
  else if h.swapPolicy p k = 0 then .reject
  else if !h.roleAllows p k then .reject
  else .accept

/-- Accept a swap. -/
def Hub.acceptSwap (p : Fin 16) (k : SwapKind) (h : Hub) : Hub :=
  let h := (h.pwr p SWAP_STATUS.last k.code).pwr p SWAP_STATUS.result 0
  let h := (h.mapPort p fun s => { s with swap := some ⟨k, false, .acceptSent, 0⟩ }).pwr p PD_STATUS.ams 3
  h.send p (.acceptSwap k)

/-- Answer a swap request Wait or Reject: busy ends with that frame (R235), unless a swap of the hub's own holds it. -/
def Hub.declineSwap (p : Fin 16) (m : Msg) (h : Hub) : Hub :=
  if (h.port p).swap.isSome || (h.port p).frs != .none then h.send p (if m = .waitSwap then .wait else .reject)
  else (h.pwr p SWAP_STATUS.busy 1).send p m

/-- A swap request arrives (R228, R232, R233, R237): busy is held from this first frame of the swap on (R235). -/
def Hub.swapReceived (p : Fin 16) (k : SwapKind) (h : Hub) : Hub :=
  if h.ownRequest p && h.isSource p then
    ((h.pbump p SWAP_CNT.collisions).portEvent p .swapCollision k.code).declineSwap p .waitSwap
  else
    let h := if h.ownRequest p then h.abandonSwap p else h
    match h.swapAnswer p k with
    | .wait => h.declineSwap p .waitSwap
    | .reject => h.declineSwap p .rejectSwap
    | .accept =>
      if k = .pr ∧ !h.isSource p then
        let h := h.claimLevels p (h.port p).rpLevel
        if h.crd p PE_ANSWER.answer = 1 then (h.pwr p SWAP_STATUS.busy 1).acceptSwap p k
        else (((h.stamp p.val).withdrawWaiting p).pwr p PORT_STATUS.held 0).declineSwap p .waitSwap
      else (h.pwr p SWAP_STATUS.busy 1).acceptSwap p k

/-- The data role changes at the GoodCRC of Accept (R240); a swap of the hub's own that is still needed follows (R244). -/
def Hub.swapDataRole (p : Fin 16) (h : Hub) : Hub :=
  ((h.pwr p PD_STATUS.data_role (1 - h.prd p PD_STATUS.data_role)).swapDone p .dr |>.endAms p).ownSwaps p

/-- A VCONN_Swap is accepted (R242, R243): the hub gives VCONN up, or closes its switch onto the lane. -/
def Hub.swapVconn (p : Fin 16) (h : Hub) : Hub :=
  if h.vconnSource p then (h.swapStep p .awaitPsRdy).start p .vconnPsRdy 200000
  else (((h.mapPort p fun s => { s with vconnDuty := true }).vconnApply p).swapStep p .laneOn).start p .vconnReady 50000

/-- A PR_Swap is accepted (R236, R237, steps 2 of the tables): the source's claims go and VBUS turns off 25 ms later; the
sink stops any reverse feed and opens its pass switch. -/
def Hub.swapPower (p : Fin 16) (h : Hub) : Hub :=
  if h.isSource p then
    let had := portEntry h.es p [.tentative, .waiting]
    let h := h.rollbackTentative p
    let h := match had with | some i => h.answer p 4 i.val 0 | none => h
    let h := ((h.freeEntry p [.waiting]).freeEntry p [.standby]).freeEntry p [.shadow]
    (((h.dropRaise p).swapStep p .accepted).start p .prSourceOff 25000)
  else
    let h := (h.loseFeed p).disarmFrs p
    let h := (((h.targetOff p).passOff p).endContract p).exitEpr p
    (h.swapStep p .awaitPsRdy).start p .prPsRdy 920000

/-- Accept of a swap has its GoodCRC, whichever end sent it. -/
def Hub.swapAccepted (p : Fin 16) (k : SwapKind) (h : Hub) : Hub :=
  match k with
  | .dr => h.swapDataRole p
  | .vconn => h.swapVconn p
  | .pr => h.swapPower p

/-- The old source has its VBUS at vSafe0V (step 3 of the first table): Rp becomes Rd, PS_RDY is sent. -/
def Hub.swapSourceDown (p : Fin 16) (h : Hub) : Hub :=
  ((h.stop p .prPsRdy).swapStep p .psRdySent).send p .psRdySwap

/-- The new source has VBUS within vSafe5V (R238): the claim commits, PS_RDY is sent. -/
def Hub.swapSourceUp (p : Fin 16) (h : Hub) : Hub :=
  ((h.stop p .prPsRdy).commitImplicit p).send p .psRdySwap

/-- The hub's lane carries VCONN: PS_RDY is sent (R242). -/
def Hub.swapLaneReady (p : Fin 16) (h : Hub) : Hub := (h.stop p .vconnReady).send p .psRdySwap

/-- PS_RDY of a swap has its GoodCRC. -/
def Hub.psRdySwapAcked (p : Fin 16) (h : Hub) : Hub :=
  match (h.port p).swap with
  | some w =>
    match w.kind, w.step with
    | .pr, .psRdySent => h.start p .prPsRdy 480000
    | .pr, .turnOn => (h.swapDone p .pr).firstCaps p
    | .vconn, .laneOn => (h.swapDone p .vconn).discoverCable p 3
    | _, _ => h
  | none =>
    if (h.port p).frs = .frAccepted then
      let h := (((h.endSwap p 1).pwr p SWAP_STATUS.frs_armed 0).pwr p STAGE_CTRL.frs_arm 0).pwr p PD_STATUS.ams 0
      h.startAms p (.sourceCaps false [])
    else h

/-- The partner's PS_RDY ends its part of a swap (steps 5 and 4 of the PR_Swap tables, R243, chapter 06 "Fast Role Swap"). -/
def Hub.swapPsRdy (p : Fin 16) (h : Hub) : Hub :=
  match (h.port p).swap with
  | some w =>
    match w.kind, w.step with
    | .pr, .psRdySent =>
      let h := (h.pwr p PD_STATUS.power_role 0).setTc p tcAttachedSnk
      (((h.pwr p PD_STATUS.contract 1).dsOff p).swapDone p .pr).endAms p
    | .pr, .awaitPsRdy =>
      let h := (h.pwr p PD_STATUS.power_role 1).setTc p tcAttachedSrc
      (((h.swapStep p .turnOn).turnOn p).start p .prPsRdy 210000)
    | .vconn, .awaitPsRdy =>
      (((h.mapPort p fun s => { s with vconnDuty := false }).vconnOff p).swapDone p .vconn).endAms p
    | _, _ => h.unexpected p
  | none => h.unexpected p

/-- A PS_RDY is expected from the partner by a swap. -/
def Hub.swapExpectsPsRdy (h : Hub) (p : Fin 16) : Bool :=
  match (h.port p).swap with
  | some w => (w.kind == .pr && (w.step == .psRdySent || w.step == .awaitPsRdy)) ||
      (w.kind == .vconn && w.step == .awaitPsRdy)
  | none => false

/-- The answer of the partner to the hub's own swap request (R229, R170): Accept. -/
def Hub.ownSwapAccepted (p : Fin 16) (h : Hub) : Hub :=
  match (h.port p).swap with
  | some w => (h.gotReply p).swapAccepted p w.kind
  | none => h

/-- Reject, Not_Supported or silence ends the hub's own request with a result (R229): an EPR entry that needed VCONN
fails with it (R172), else the AMS ends, and what else the hub needs follows a DR_Swap (R244). -/
def Hub.ownSwapEnds (p : Fin 16) (result : Nat) (h : Hub) : Hub :=
  let data : Bool := match (h.port p).swap with | some w => w.kind == .dr | none => false
  let implicit : Bool := match portEntry h.es p [.tentative, .waiting] with
    | some i => !h.isSource p && h.es[i].kind == .implicit
    | none => false
  let h := h.endSwap p result
  let h := if implicit then (h.stamp p.val).dropSwapClaim p else h
  if (h.port p).eprEntry then
    let h := h.mapPort p fun s => { s with eprEntry := false }
    ((h.gotReply p).pwr p PD_STATUS.ams 4).send p (.eprFailed 3)
  else if data then (h.endAms p).ownSwaps p
  else h.endAms p

/-- Wait (R229): the request is repeated 100 ms later, and ends with result WAIT after the fifth. -/
def Hub.ownSwapWaits (p : Fin 16) (h : Hub) : Hub :=
  match (h.port p).swap with
  | some w =>
    if 4 ≤ w.repeats then h.ownSwapEnds p 3
    else
      let h := h.mapPort p fun s => { s with swap := some { w with repeats := w.repeats + 1 } }
      ((h.pwr p SWAP_STATUS.busy 0).start p .swapWait 100000).endAms p
  | none => h

/-- A claim that a PR_Swap of the hub's own waits for is granted (R237). -/
def Hub.swapGranted (p : Fin 16) (h : Hub) : Hub :=
  match (h.port p).swap with
  | some w =>
    if w.step = .granting then (h.swapStep p .requested).startAms p (.swapRequest .pr) else h
  | none => h

/-- Start a swap for a write of swap_go (R230). -/
def Hub.swapGo (p : Fin 16) (k : SwapKind) (h : Hub) : Hub :=
  if h.pis p SWAP_STATUS.busy || !h.attached p || !h.explicit p then h.pwr p SWAP_STATUS.result 6
  else h.requestSwap p k

/-! ### Meanings -/

/-- PR_SWAP_RECEIVED (R228). -/
def execPrSwapReceived (p : Fin 16) (f : RxFrame) (s : State) : Host.Outcome State Fault Refusal :=
  .next (onPort p (fun h => h.receive p f (Hub.refuse p) (Hub.swapReceived p .pr)) s)

/-- DR_SWAP_RECEIVED (R240). -/
def execDrSwapReceived (p : Fin 16) (f : RxFrame) (s : State) : Host.Outcome State Fault Refusal :=
  .next (onPort p (fun h => h.receive p f (Hub.refuse p) (Hub.swapReceived p .dr)) s)

/-- VCONN_SWAP_RECEIVED (R228). -/
def execVconnSwapReceived (p : Fin 16) (f : RxFrame) (s : State) : Host.Outcome State Fault Refusal :=
  .next (onPort p (fun h => h.receive p f (Hub.refuse p) (Hub.swapReceived p .vconn)) s)

/-- SWAP_WAIT_RETRY (R229). -/
def execSwapWaitRetry (p : Fin 16) (s : State) : Host.Outcome State Fault Refusal :=
  .next (onPort p (fun h => h.expire p .swapWait fun h =>
    match (h.port p).swap with
    | some w => h.startAms p (.swapRequest w.kind)
    | none => h) s)

/-- PR_SWAP_SOURCE_OFF (R236): the target goes to 0 V, the pass switch opens, discharge turns on, and COMMITTED passes
through RELEASING to FREE as an event of the port's own (R190, R192). -/
def execPrSwapSourceOff (p : Fin 16) (s : State) : Host.Outcome State Fault Refusal :=
  .next (onPort p (fun h => h.expire p .prSourceOff fun h =>
    let h := (((h.targetOff p).passOff p).dsOn p).pwr p PORT_STATUS.vsafe5 0
    let h := (((h.stamp p.val).freeEntry p [.committed]).dropRamp p).liftTrim p
    ((((h.endContract p).exitEpr p).swapStep p .sourceOff).start p .prPsRdy 650000)) s)

/-- PR_SWAP_PS_RDY_TIMEOUT (R239). -/
def execPrSwapPsRdyTimeout (p : Fin 16) (s : State) : Host.Outcome State Fault Refusal :=
  .next (onPort p (fun h => h.expire p .prPsRdy (Hub.swapFailed p)) s)

/-- VCONN_SWAP_LANE_READY (R242). -/
def execVconnSwapLaneReady (p : Fin 16) (s : State) : Host.Outcome State Fault Refusal :=
  .next (onPort p (fun h => h.expire p .vconnReady (Hub.send p .psRdySwap)) s)

/-- VCONN_SWAP_TIMEOUT (R243): VCONN is kept, and Hard Reset is sent. -/
def execVconnSwapTimeout (p : Fin 16) (s : State) : Host.Outcome State Fault Refusal :=
  .next (onPort p (fun h => h.expire p .vconnPsRdy fun h => (h.endSwap p 5).hardReset p true) s)

/-- FRS_SIGNAL (R247, R249): recognised on an armed port only; FRS_RX is stamped and a TENTATIVE entry rolled back. -/
def execFrsSignal (p : Fin 16) (s : State) : Host.Outcome State Fault Refusal :=
  .next (onPort p (fun h =>
    if h.tc p = tcAttachedSnk ∧ h.pis p SWAP_STATUS.frs_armed ∧ (h.port p).frs = .none then
      let h := h.portEvent p .frsRx 0
      let h := match portEntry h.es p [.tentative] with
        | some i => (h.rollbackTentative p).answer p 4 i.val 0
        | none => h
      let h := (h.endSwap p 5).dropSpec p
      let h := ((h.pwr p SWAP_STATUS.busy 1).pwr p SWAP_STATUS.last 5).pwr p SWAP_STATUS.result 0
      let h := h.mapPort p fun s =>
        { s with frs := .recognised, txq := [], amsq := [], pending := none, asked := none, chunkOut := none,
                 arriving := false }
      (h.stopAllBut p [.inrush, .gate]).pwr p PD_STATUS.ams 3
    else h) s)

/-- FRS_SOURCE_START (R248): 5.00 V at the partner's frs_current from the moment VBUS falls below 4.75 V; STANDBY commits
with an override start, and FR_Swap is sent. -/
def execFrsSourceStart (p : Fin 16) (s : State) : Host.Outcome State Fault Refusal :=
  .next (onPort p (fun h =>
    if (h.port p).frs = .recognised then
      let code := h.prd p PARTNER_INFO.frs_current
      let amp := frsCurrent code
      let h := (((h.pwr p STAGE_CTRL.mode modeForward).pwr p STAGE_CTRL.cl_kind 0).pwr p STAGE_CTRL.frs_arm 0).dropRaises p
      let h := h.stepTo p 500
      let h := (h.pwr p STAGE_VSET.vset 500).pwr p STAGE_ILIM.ilim_set amp
      let h := (h.mapPort p fun s => { s with ilimEff := amp, implicitTry := code - 1 }).setStage p stRegulate
      let h := ((h.stamp p.val).endContract p).exitEpr p
      let h := match portEntry h.es p [.standby] with
        | some i =>
          let e := h.es[i]
          (((h.setEntry i { e with st := .committed }).bump HAMPER_CNT2.overrides).log
            { ev := .commit, data := e.power, port := some p })
        | none => h
      let h := (h.pwr p PD_STATUS.contract 1).pwr p SWAP_STATUS.frs_armed 0
      (h.mapPort p fun s => { s with frs := .frSwapSent }).send p .frSwap
    else h) s)

end Sys2Proof.Machine
end

