-- ==== Sys2Proof/Machine/Bivouac.lean ====
section
/-! DEFINITION. Bivouac mode (chapter 06): entry, the swap of a feeding port, return to mains, and the meanings of the
commands that are not register writes. -/

namespace Sys2Proof.Machine

open Sys2Proof.Reg

/-! ### Entry -/

/-- The ports that feed (R257, R271): those still feeding first, then the eligible ones by rank, island_max in all. -/
def Hub.feedList (h : Hub) : List (Fin 16) :=
  (h.ranked h.feedingPorts ++ h.eligiblePorts).take (h.rd BIVOUAC_CFG.island_max)

/-- COMMITTED entries of source ports that do not feed, by class, then seq (R257). -/
def Hub.keepOrder (h : Hub) (feed : List (Fin 16)) : List (Fin 64) :=
  sortBy (fun a b => decide (h.es[a].cls < h.es[b].cls) ||
      (h.es[a].cls == h.es[b].cls && decide (h.es[a].place < h.es[b].place)))
    (allEntries.filter fun i => h.es[i].st == .committed && h.es[i].kind != .aux && !feed.contains h.es[i].port)

/-- Put a port into safe state and set its shed bit (R257). -/
def Hub.shed (p : Fin 16) (h : Hub) : Hub :=
  (((h.safeNow p).pwr p SWAP_STATUS.shed 1).wr SHED_MASK.shed (h.rd SHED_MASK.shed ||| 2 ^ p.val))

/-- The loop over the committed entries (R257): kept, trimmed to their floor, or shed. -/
def Hub.keepLoads (budget : Nat) : List (Fin 64) → Nat → Hub → Hub
  | [], _, h => h
  | i :: l, kept, h =>
    let e := h.es[i]
    let w := if e.pps then min e.floor e.power else e.power
    if kept + w ≤ budget then
      let h := if w < e.power then (h.trimEntry i w).alert e.port .alertCondition else h
      h.keepLoads budget l (kept + w)
    else (h.shed e.port).keepLoads budget l kept

/-- Source ports without a committed entry that hold a claim are kept; the others that carry nothing stay as they are. Each
kept port's TENTATIVE and WAITING entries are rolled back (R257, R202). -/
def Hub.dropKeptClaims (p : Fin 16) (h : Hub) : Hub :=
  let h := h.rollbackByHamper p
  if (portEntry h.es p [.waiting]).isSome then
    (h.withdrawWaiting p).pwr p PD_STATUS.wait_held 0
  else h

/-- Enter Bivouac mode under the trigger's stamp (R251, R257, R259, R271); `mains` tells the causes apart. Where every port
of the feed holds its island contract already, phase reads ISLAND at once (R266). -/
def Hub.enterBivouac (mains : Bool) (h : Hub) : Hub :=
  let h := h.log { ev := .bivouacEntered, data := if mains then 2 else 1 }
  let h := h.latchShared 55 (h.noAccess 55) 0
  let h := ((h.wr BIVOUAC_STATUS.cause_mains mains.toNat).wr BIVOUAC_STATUS.cause_vhub (!mains).toNat).wr
    SHED_MASK.shed 0
  let h := h.each h.presentPorts fun p => Hub.pwr p SWAP_STATUS.shed 0
  let feed := h.feedList
  let h := h.wr BIVOUAC_STATUS.no_pack feed.isEmpty.toNat
  let h := h.wr BIVOUAC_STATUS.phase 1
  let h := (h.each (feed.filter fun p => !h.pis p SWAP_STATUS.feeding) Hub.startFeed).showFeed
  let budget := h.islandBudget
  let h := h.keepLoads budget (h.keepOrder feed) 0
  let h := if feed.isEmpty then h.each h.sourcePorts Hub.shed else h
  let h := h.each (h.roundRobin (h.sourcePorts.filter fun p => !feed.contains p)) Hub.dropKeptClaims
  let h := h.wr ISLAND_BUDGET.budget budget
  if feed.isEmpty then h else h.checkIsland

/-- Bivouac mode may be entered: enabled, and not already active (R251, R254, R271). -/
def Hub.mayEnter (h : Hub) : Bool :=
  h.is BIVOUAC_CTRL.bivouac_en && (h.rd BIVOUAC_STATUS.phase == 0 || h.rd BIVOUAC_STATUS.phase == 3)

/-- VHUB falls, or force is written (R251, R252, R254): a trigger stamped while the mode is active or disabled is logged
only, by the code that names its cause (log entry 111). -/
def Hub.vhubTrigger (r : Nat) (h : Hub) : Hub :=
  let h := h.stamp r
  if h.mayEnter then h.enterBivouac false else h.log { ev := .bivouacEntered, data := 1 }

/-! ### Meanings -/

/-- VHUB_ISLAND_TRIGGER (R251): vhub_island 0 disables the trigger. -/
def execVhubIslandTrigger (s : State) : Host.Outcome State Fault Refusal :=
  .next (onHub (fun h => if h.is BIVOUAC_CFG.vhub_island then h.vhubTrigger 24 else h) s)

/-- FRS_SIGNAL_END (R260, R262): the pack has 2 ms to apply 5 V and 20 ms to send FR_Swap. -/
def execFrsSignalEnd (p : Fin 16) (s : State) : Host.Outcome State Fault Refusal :=
  .next (onPort p (fun h =>
    if (h.port p).frs = .signalling then
      (h.mapPort p fun x => { x with frs := .awaitVbus }).start p .frsVbus 2000 |>.start p .frsMsg 20000
    else h) s)

/-- FEED_VBUS_PRESENT (R261, R309): discharge is off; the pass switch closes once the node is ready. -/
def execFeedVbusPresent (p : Fin 16) (s : State) : Host.Outcome State Fault Refusal :=
  .next (onPort p (fun h => h.expire p .frsVbus fun h =>
    let h := ((h.dsOff p).pwr p PORT_STATUS.vsafe5 1).pwr p PORT_STATUS.vsafe0 0
    if h.pis p STAGE_STATUS.node_ready then h.passOn p else h) s)

/-- FRS_NO_SOURCE (R262): the port goes to safe state; its loss is a cut (R265). -/
def execFrsNoSource (p : Fin 16) (s : State) : Host.Outcome State Fault Refusal :=
  .next (onPort p (fun h =>
    if h.runs p .frsVbus || h.runs p .frsMsg then (h.portEvent p .frsNoSource 0).safeNow p else h) s)

/-- FR_SWAP_RECEIVED (R250, R262, R263): accepted on a feeding port that awaits it, or after a recognised signal, else
Hard Reset. -/
def execFrSwapReceived (p : Fin 16) (f : RxFrame) (s : State) : Host.Outcome State Fault Refusal :=
  let act : Hub → Hub := fun h =>
    if h.runs p .frsMsg then (h.stop p .frsMsg).send p .acceptFrs
    else if (h.port p).frs = .recognised ∨ (h.port p).frs = .frSwapSent then h.send p .acceptFrs
    else h.hardReset p true
  .next (onPort p (fun h => h.receive p f act act) s)

/-- return_delay seconds have passed since MAINS_RETURNED with no MAINS_LOST in between (R269). -/
def Hub.returnDue (h : Hub) : Bool :=
  h.returnPending && decide (h.returnedClk + h.rd BIVOUAC_CFG2.return_delay * 300000000 ≤ h.sun.clk)

/-- RETURN_DELAY_EXPIRY (R269): the return starts, if the hub islands and may return by itself. -/
def execReturnDelayExpiry (s : State) : Host.Outcome State Fault Refusal :=
  .next (onHub (fun h =>
    if h.returnDue then
      let h := { h with returnPending := false }
      if h.is BIVOUAC_CTRL.exit_auto && h.is SUN_CFG.acz_wired && h.islanded then h.startReturn 19 else h
    else h) s)

end Sys2Proof.Machine
end

