-- ==== Sys2Proof/Machine/Sundial.lean ====
section
/-! DEFINITION. The Sundial (chapter 02): its tick, reference edges, loss and return of the mains, schedule slots, and
the meanings of the commands that are not register writes. -/

namespace Sys2Proof.Machine

open Sys2Proof.Reg

/-! ### Time -/

/-- Length of a tick in core clocks, with the fraction carried as a part of `freq · 65536 · (64 + s)`: 300 MHz, the
running frequency in 0.01 Hz, and a rate that a slew changes by one tick in 64 (R55, R56, R60). -/
def Hub.tickClocks (h : Hub) : Nat × Nat :=
  let rate := if 0 < h.sun.slew then 65 else if h.sun.slew < 0 then 63 else 64
  let whole := h.rd SUN_FREQ.freq * 65536 * rate
  let have_ := h.sun.frac + 30000000000 * 64
  if whole = 0 then (0, 0) else (have_ / whole, have_ % whole)

/-- A slew moves one tick nearer its end in every 64 ticks (R56). -/
def Hub.slewOn (h : Hub) : Hub :=
  if h.sun.slew ≠ 0 ∧ h.sun.ticks % 64 = 0 then
    let left := if 0 < h.sun.slew then h.sun.slew - 1 else h.sun.slew + 1
    let h := { h with sun := { h.sun with slew := left } }
    if left = 0 then h.wr SUN_STATUS.slewing 0 else h
  else h

/-- The cycle number goes one up (R55, R87): a wrap raises SUNDIAL_WRAP and counts the epoch. -/
def Hub.wrapCycle (h : Hub) : Hub :=
  let epoch := (h.rd LOG_HEADER.epoch + 1) % 0x10000
  (h.wr LOG_HEADER.epoch epoch).event 18 { ev := .sundialWrap, data := epoch }

/-- One tick of Sundial time. -/
def Hub.tick (h : Hub) : Hub :=
  let t := h.tickClocks
  let cycleUp := h.sun.angle == 0xFFFF
  let wraps := cycleUp && h.sun.cycle == 0xFFFFFFFF
  let s := h.sun
  let h : Hub := { h with sun :=
    { s with angle := s.angle + 1, cycle := if cycleUp then s.cycle + 1 else s.cycle, ticks := s.ticks + 1,
             clk := s.clk + t.1, frac := t.2 } }
  let h := h.slewOn
  if wraps then h.wrapCycle else h

/-! ### Reference edges -/

/-- The Route Card source, but for a leader configured for SYNC (R67). -/
def Hub.wantedSource (h : Hub) : Nat :=
  if h.is SUN_CFG.sync_drive && h.sun.cardSource == 1 then (if h.is SUN_CFG.acz_wired then 0 else 2)
  else h.sun.cardSource

/-- The phase of an edge: how far Sundial time stands from angle 0 at it, by the shorter way round; acz_offset is added
to the time of an ACZ edge (R63, R66). -/
def Hub.edgePhase (h : Hub) (acz : Bool) : Int :=
  (if acz then h.sun.angle + BitVec.ofNat 16 (h.rd SUN_ACZ.acz_offset) else h.sun.angle).toInt

/-- The frequency of an interval in core clocks, in SUN_FREQ's units of 0.01 Hz, to the nearest. -/
def intervalFreq (n : Nat) : Nat := if n = 0 then 0 else (30000000000 + n / 2) / n

/-- An interval in core clocks lies at 45.00 to 66.00 Hz (R64), judged in units of 0.01 Hz (DEDUCED: log entry 20). -/
def validInterval (n : Nat) : Bool := 4500 ≤ intervalFreq n && intervalFreq n ≤ 6600

/-- The interval to an earlier edge is valid. -/
def Hub.validSince (h : Hub) (e : Option Edge) : Bool :=
  match e with
  | some e => validInterval (h.sun.clk - e.clk)
  | none => false

/-- Declare LOCKED (R65, R76): the Route Card source returns, steps end. What is left of the correction, at most 0x40 ticks,
is dropped, and slewing reads 0 (DESIGN CHOICE, log entry 101: the spec says nothing of it). -/
def Hub.declareLocked (h : Hub) : Hub :=
  let h := ((h.wr SUN_STATUS.locked 1).wr SUN_STATUS.unlocked 0).wr SUN_STATUS.active h.wantedSource
  let h := ((h.wr SUN_STATUS.pre_ready 0).wr SUN_STATUS.slewing 0).wr SUN_STATUS.holdover 0
  { h with sun := { h.sun with slew := 0 } }.event 18 { ev := .sundialLocked }

/-- The edge lies inside the window of R62. -/
def inWindow (phase : Int) : Bool := decide (phase.natAbs ≤ 0x1000)

/-- A valid reference has returned outside its window in hold-over (R76): the lock is lost until R65 is met again (DEDUCED,
log entry 37). -/
def Hub.loseLock (h : Hub) : Hub := { h with sun := { h.sun with inLimit := 0 } }.wr SUN_STATUS.locked 0

/-- An accepted edge of the reference in use (R59, R64, R65, R73, R76). SUN_FREQ takes the measured frequency at each valid
interval, in FREE and before LOCKED too (DESIGN CHOICE, log entry 102). -/
def Hub.referenceEdge (phase : Int) (h : Hub) : Hub :=
  let first := h.sun.ref.isNone
  let valid := h.validSince h.sun.ref
  let interval := match h.sun.ref with | some e => h.sun.clk - e.clk | none => 0
  let h := if valid then h.wr SUN_FREQ.freq (intervalFreq interval) else h
  let h := if valid && h.is SUN_STATUS.holdover && !inWindow phase then h.loseLock else h
  let h := if valid || inWindow phase then h.wr SUN_STATUS.holdover 0 else h
  let small := decide (phase.natAbs ≤ 0x40)
  let step := h.is SUN_STATUS.pre_ready && (first || valid) && !small
  let angle := if step then h.sun.angle - BitVec.ofInt 16 phase else h.sun.angle
  let run := if !step && valid && small then h.sun.inLimit + 1 else 0
  let slew : Int := if step then 0 else if valid then -phase else h.sun.slew
  let h := { h with sun := { h.sun with angle := angle, inLimit := run, slew := slew } }
  let h := { h with sun := { h.sun with ref := some ⟨h.sun.clk, h.sun.ticks, valid⟩ } }
  let h := if !step && valid && !h.is SUN_STATUS.pre_ready then h.wr SUN_STATUS.slewing (slew != 0).toNat else h
  if valid && decide (2 ≤ run) && !h.is SUN_STATUS.locked then h.declareLocked else h

/-- Two consecutive accepted edges with a valid interval after MAINS_LOST clear mains_lost (R75); return_delay
runs from here (R269). -/
def Hub.mainsEdge (valid : Bool) (h : Hub) : Hub :=
  if h.is SUN_STATUS.mains_lost then
    if valid && decide (1 ≤ h.sun.returnEdges) then
      let h := (h.wr SUN_STATUS.mains_lost 0).event 18 { ev := .mainsReturned }
      { h with sun := { h.sun with returnEdges := 0 }, returnPending := true, returnedClk := h.sun.clk }
    else { h with sun := { h.sun with returnEdges := h.sun.returnEdges + 1 } }
  else h

/-- An edge passes R62: its level has lasted, and while LOCKED it lies in the window; in hold-over a reference may return
outside its window (R76). -/
def Hub.edgePasses (h : Hub) (acz : Bool) (held : Nat) : Bool :=
  !(decide (held < h.rd SUN_ACZ.acz_filter * 10) ||
    (h.is SUN_STATUS.locked && !h.is SUN_STATUS.holdover && !inWindow (h.edgePhase acz)))

/-- A rising edge of ACZ or SYNC (R62–R66). `held` is how long its new level has lasted, in µs. -/
def Hub.edge (acz : Bool) (held : Nat) (h : Hub) : Hub :=
  if h.edgePasses acz held then
    let phase := h.edgePhase acz
    let isRef := h.wantedSource == (if acz then 0 else 1)
    let prev := if acz then h.sun.acz else if isRef then h.sun.ref else none
    let valid := h.validSince prev
    let h := if prev.isSome && !valid then h.bump SUN_COUNT.reject else h
    let h := if acz then h.mainsEdge valid else { h with rack := { h.rack with syncTick := some h.sun.ticks } }
    let h := if isRef then h.referenceEdge phase else h
    if acz then { h with sun := { h.sun with acz := some ⟨h.sun.clk, h.sun.ticks, valid⟩ } } else h
  else h.bump SUN_COUNT.reject

/-! ### Loss of the reference -/

/-- Ticks of Sundial time since an edge. -/
def Hub.ticksSince (h : Hub) (t : Nat) : Nat := h.sun.ticks - t

/-- Mains loss is due (R69): lost_halves half-cycles have passed since the last accepted ACZ edge, or since READY where none
has been accepted (R355). -/
def Hub.lossDue (h : Hub) : Bool :=
  h.is SUN_CFG.acz_wired && !h.is SUN_STATUS.mains_lost &&
    match (h.sun.acz.map Edge.tick).or h.sun.readyTick with
    | some t => decide (h.rd SUN_LOSS.lost_halves * 0x8000 ≤ h.ticksSince t)
    | none => false

/-- The last window of the reference in use that has closed was empty (R71): it closes 0x1000 ticks after angle 0x0000, by
the time of R63, and is 0x2000 ticks long. -/
def Hub.windowEmpty (h : Hub) : Bool :=
  match h.sun.ref with
  | some e =>
    let closed := (BitVec.ofInt 16 (h.edgePhase (h.rd SUN_STATUS.active == 0)) - 0x1000).toNat
    decide (closed + 0x2000 < h.ticksSince e.tick)
  | none => false

/-- The hold-over has run out (R72): hold_cycles cycles have passed since the last accepted reference edge. -/
def Hub.holdSpent (h : Hub) : Bool :=
  match h.sun.ref with
  | some e => decide (h.rd SUN_LOSS.hold_cycles * 0x10000 ≤ h.ticksSince e.tick)
  | none => false

/-! ### Schedule slots -/

/-- A target is ahead of Sundial time (R84). -/
def Hub.ahead (h : Hub) (cycle : Word) (angle : BitVec 16) : Bool :=
  let d := (cycle - h.sun.cycle).toNat
  (1 ≤ d && d < 0x80000000) || (d == 0 && h.sun.angle.toNat < angle.toNat)

/-- A slot holds a target (SLOT_BUSY). -/
def Hub.slotBusy (h : Hub) (n : Nat) : Bool := (h.rd SLOT_BUSY.busy).testBit n

/-- The target of a slot is ahead. -/
def Hub.slotAhead (h : Hub) (n : Nat) : Bool :=
  h.ahead (BitVec.ofNat 32 (h.rd (SLOT_TGT_CYCLE.cycle n))) (BitVec.ofNat 16 (h.rd (SLOT_TGT_ANGLE.angle n)))

/-- The target of a slot, as SLOT_TGT_CYCLE and SLOT_TGT_ANGLE show it. -/
def Hub.slotTarget (h : Hub) (n : Nat) : Nat × Nat := (h.rd (SLOT_TGT_CYCLE.cycle n), h.rd (SLOT_TGT_ANGLE.angle n))

/-- Two due slots fire in the same tick: their targets are the same, or both fire late, in the tick after they became
late (R79, R83, R86). -/
def Hub.sameTick (h : Hub) (m n : Nat) : Bool :=
  h.slotTarget m == h.slotTarget n || (h.sun.slotLate.getLsbD m && h.sun.slotLate.getLsbD n)

/-- A slot may fire: its target is no longer ahead (R79), and no lower-numbered slot of the same tick has still to fire
(R81). -/
def Hub.slotDue (h : Hub) (n : Nat) : Bool :=
  h.slotBusy n && !h.slotAhead n &&
    !(List.range n).any fun m => h.slotBusy m && !h.slotAhead m && h.sameTick m n

/-- Give a slot a target. -/
def Hub.setSlot (n : Nat) (cycle : Word) (angle : BitVec 16) (h : Hub) : Hub :=
  ((h.wr SLOT_BUSY.busy (h.rd SLOT_BUSY.busy ||| 2 ^ n)).wr (SLOT_TGT_CYCLE.cycle n) cycle.toNat).wr
    (SLOT_TGT_ANGLE.angle n) angle.toNat

/-- Free a slot. -/
def Hub.clearSlot (n : Nat) (h : Hub) : Hub :=
  h.wr SLOT_BUSY.busy (h.rd SLOT_BUSY.busy &&& (0xFFFFFFFF - 2 ^ n))

/-- The lowest free slot of 5–31 (R77). -/
def Hub.freeSlot (h : Hub) : Option (Fin 32) :=
  (List.finRange 32).find? fun n => 5 ≤ n.val && !h.slotBusy n.val

/-- Set a master's SLOT_RESULT. -/
def Hub.slotResult (m : Master) (status slot : Nat) (h : Hub) : Hub :=
  (h.mwr m SLOT_RESULT.status status).mwr m SLOT_RESULT.slot slot

/-- A write of SLOT_REQ (R77, R78, R85, R86), an event of its writer (R627). A target at the current angle is no longer ahead
(R84), so it counts as one that has passed (DEDUCED, log entry 103). SLOT_RESULT.slot reads 0 after a refusal (DESIGN
CHOICE, log entry 103). -/
def Hub.slotRequest (m : Master) (angle : BitVec 16) (irq : Bool) (a : Access) (h : Hub) : Hub :=
  let h := h.stamp (masterRequester m)
  let cycle : Word := BitVec.ofNat 32 (h.mrd m SLOT_REQ_CYCLE.cycle)
  if 0x80000000 ≤ (cycle - h.sun.cycle).toNat then h.slotResult m 3 0
  else
    match h.freeSlot with
    | none => (h.slotResult m 2 0).latchShared 33 a 0
    | some n =>
      let late := !h.ahead cycle angle
      let h := (h.setSlot n.val cycle angle).slotResult m 1 n.val
      { h with sun := { h.sun with
          slotOwner := h.sun.slotOwner.set n (some m), slotIrq := h.sun.slotIrq.set n irq,
          slotLate := if late then h.sun.slotLate ||| BitVec.ofNat 32 (2 ^ n.val)
            else h.sun.slotLate &&& ~~~BitVec.ofNat 32 (2 ^ n.val) } }

/-- A slot of 5–31 fires (R80, R83, R86). -/
def Hub.fireSlot (n : Fin 32) (h : Hub) : Hub :=
  let bit : Word := BitVec.ofNat 32 (2 ^ n.val)
  let h := h.event 18 { ev := .slotFired, data := n.val }
  let h := (h.clearSlot n.val).setWord 0x1015 (h.word 0x1015 ||| bit)
  let h := if h.sun.slotLate &&& bit ≠ 0 then h.setWord 0x1016 (h.word 0x1016 ||| bit) else h
  let own := h.sun.slotOwner[n]
  let irq := h.sun.slotIrq[n]
  { h with sun := { h.sun with
      slotLate := h.sun.slotLate &&& ~~~bit, slotOwner := h.sun.slotOwner.set n none,
      irqA := if irq && own == some Master.supA then h.sun.irqA ||| bit else h.sun.irqA,
      irqB := if irq && own == some Master.supB then h.sun.irqB ||| bit else h.sun.irqB } }

/-- A write of SLOT_CANCEL (R82): NOT_BUSY, ALREADY_FIRED with the firing, or CANCELLED. -/
def Hub.slotCancel (m : Master) (n : Fin 32) (h : Hub) : Hub :=
  if !h.slotBusy n.val then h.slotResult m 6 n.val
  else if !h.slotAhead n.val then (h.fireSlot n).slotResult m 5 n.val
  else (h.clearSlot n.val).slotResult m 4 n.val

/-! ### Meanings -/

/-- ACZ_EDGE (R62–R65, R73, R75, R76). -/
def execAczEdge (held : Nat) (s : State) : Host.Outcome State Fault Refusal :=
  .next (onHub (Hub.edge true held) s)

/-- SYNC_EDGE (R66): as an ACZ edge, acz_offset not applied; a hub that drives SYNC itself takes none. -/
def execSyncEdge (held : Nat) (s : State) : Host.Outcome State Fault Refusal :=
  .next (onHub (fun h =>
    if h.is SUN_CFG.sync_drive then h else h.edge false held) s)

/-- HOLDOVER_START (R71): the window of an expected edge closes empty. A correction that is not finished is dropped, and
slewing reads 0 (DESIGN CHOICE, log entry 101: the spec says nothing of it). -/
def execHoldoverStart (s : State) : Host.Outcome State Fault Refusal :=
  .next (onHub (fun h =>
    if h.is SUN_STATUS.locked && h.rd SUN_STATUS.active != 2 && h.windowEmpty then
      ({ h with sun := { h.sun with slew := 0 } }.wr SUN_STATUS.slewing 0).wr SUN_STATUS.holdover 1
    else h) s)

/-- MAINS_LOST (R69, R70): source 32 latches, and Bivouac mode may begin at the same stamp (R251). -/
def execMainsLost (s : State) : Host.Outcome State Fault Refusal :=
  .next (onHub (fun h =>
    if h.lossDue then
      let h := (h.wr SUN_STATUS.mains_lost 1).event 18 { ev := .mainsLost }
      let h := { h with sun := { h.sun with returnEdges := 0 }, returnPending := false }
      let h := h.latchShared 32 (h.noAccess 32) 0
      if h.mayEnter then h.enterBivouac true else h
    else h) s)

/-- SUNDIAL_UNLOCKED (R72): FREE at the held frequency; a MAINS_LOST of the same tick is stamped first (R74). -/
def execSundialUnlocked (s : State) : Host.Outcome State Fault Refusal :=
  .next (onHub (fun h =>
    if !h.is SUN_STATUS.unlocked && h.rd SUN_STATUS.active != 2 && h.holdSpent && !h.lossDue then
      let h := ((h.wr SUN_STATUS.unlocked 1).wr SUN_STATUS.locked 0).wr SUN_STATUS.holdover 0
      let h := ((h.wr SUN_STATUS.active 2).wr SUN_STATUS.slewing 0).wr SUN_FREE_FREQ.free_freq (h.rd SUN_FREQ.freq)
      let h := { h with sun := { h.sun with inLimit := 0, slew := 0 } }.event 18 { ev := .sundialUnlocked }
      h.latchShared 31 (h.noAccess 31) 0
    else h) s)

/-- SLOT_FIRED (R79, R80): slots 5–31 whose target is no longer ahead. -/
def execSlotFired (slot : Fin 32) (s : State) : Host.Outcome State Fault Refusal :=
  .next (onHub (fun h =>
    if 5 ≤ slot.val && h.slotDue slot.val then (h.fireSlot slot).wake else h) s)

/-- SUNDIAL_WRAP (R87): the tick in which the cycle number passes from its last value to 0. -/
def execSundialWrap (s : State) : Host.Outcome State Fault Refusal :=
  .next (onHub (fun h => if h.sun.cycle = 0xFFFFFFFF ∧ h.sun.angle = 0xFFFF then h.tick else h) s)

end Sys2Proof.Machine
end

