-- ==== Sys2Proof/Machine/Attach.lean ====
section
/-! DEFINITION. Attach (chapter 03): lanes, the Type-C states of R100, VCONN, vSafe5V and vSafe0V, detach, the drain of
R124, and the meanings of the commands that are not register writes. -/

namespace Sys2Proof.Machine

open Sys2Proof.Reg

/-! ### Lanes -/

/-- A termination is an Rp. -/
def isRp : Term → Bool
  | .rp _ => true
  | _ => false

/-- The level that a lane's Rp shows. -/
def rpLevelOf : Term → Nat
  | .rp n => n.val
  | _ => 0

/-- The one lane that shows an Rd, the other one not: 0 lane A, 1 lane B. -/
def oneRd (a b : Term) : Option Nat :=
  if a = .rd then (if b = .rd then none else some 0) else if b = .rd then some 1 else none

/-- The one lane that shows an Rp. -/
def oneRp (a b : Term) : Option Nat :=
  if isRp a then (if isRp b then none else some 0) else if isRp b then some 1 else none

/-- What the lanes show: an isolated lane shows nothing (R92). -/
def Hub.lanes (h : Hub) (p : Fin 16) : Term × Term :=
  let s := h.port p
  (if s.isoA then .open_ else s.laneA, if s.isoB then .open_ else s.laneB)

/-- The lane with Rd. -/
def Hub.rdLane (h : Hub) (p : Fin 16) : Option Nat := oneRd (h.lanes p).1 (h.lanes p).2

/-- The lane with Rp. -/
def Hub.rpLane (h : Hub) (p : Fin 16) : Option Nat := oneRp (h.lanes p).1 (h.lanes p).2

/-- Start cc_debounce or pd_debounce. -/
def Hub.debounce (p : Fin 16) (t : Tmr) (h : Hub) : Hub :=
  h.start p t (match t with
    | .ccDebounce => h.prd p TC_TIMER1.cc_debounce * 1000
    | _ => h.prd p TC_TIMER1.pd_debounce * 1000)

/-! ### Entering states -/

/-- Release the claims of a port that has not attached, as an event of its own if it holds any. -/
def Hub.dropClaims (p : Fin 16) (h : Hub) : Hub :=
  let h := h.mapPort p fun s => { s with shadowMade := false }
  if (portEntry h.es p [.tentative, .waiting, .shadow]).isSome then
    ((h.stamp p.val).releaseEntries p false).pwr p PORT_STATUS.held 0
  else h

/-- Enter ATTACHED_SRC (R105, R106, R111): VCONN before VBUS, then the 5 V transition is handed over. -/
def Hub.attachSrc (p : Fin 16) (lane : Nat) (h : Hub) : Hub :=
  let other := if lane = 0 then (h.lanes p).2 else (h.lanes p).1
  let h := h.stopAllBut p []
  let h := ((h.pwr p PORT_STATUS.orient lane).pwr p PORT_STATUS.ra_seen (if other = .ra then 1 else 0)).attach p
    tcAttachedSrc
  let h := ((h.pwr p PD_STATUS.power_role 1).pwr p PD_STATUS.data_role 1).pwr p PD_STATUS.contract 0
  let h := h.mapPort p fun s => { s with vconnDuty := decide (other = .ra) }
  let h := if other = .ra then h.vconnApply p else h
  (h.start p .vbusOn 275000).turnOn p

/-- Enter ATTACHED_SNK (R105): the port draws nothing (R231). -/
def Hub.attachSnk (p : Fin 16) (lane : Nat) (h : Hub) : Hub :=
  let h := h.stopAllBut p []
  let h := (h.pwr p PORT_STATUS.orient lane).attach p tcAttachedSnk
  let h := ((h.pwr p PD_STATUS.power_role 0).pwr p PD_STATUS.data_role 0).pwr p PD_STATUS.contract 1
  (h.dropClaims p).mapPort p fun s => { s with implicitTry := 0 }

/-- ATTACHWAIT_SRC or TRY_SRC is left for ATTACHED_SRC once Rd is stable, VBUS at vSafe0V and the claim granted (R100,
R110, R111). -/
def Hub.tryAttachSrc (p : Fin 16) (h : Hub) : Hub :=
  let stable := (h.tc p == tcAttachWaitSrc && !h.runs p .ccDebounce) || (h.tc p == tcTrySrc && !h.runs p .pdDebounce)
  if stable && h.pis p PORT_STATUS.vsafe0 && (portEntry h.es p [.tentative]).isSome && !h.autoHeld p then
    match h.rdLane p with
    | some l => h.attachSrc p l
    | none => h
  else h

/-- ATTACHWAIT_SNK or TRYWAIT_SNK is left once Rp is stable and VBUS is above 4.0 V (R96, R100, R102). -/
def Hub.tryAttachSnk (p : Fin 16) (h : Hub) : Hub :=
  let waiting := h.tc p == tcAttachWaitSnk || h.tc p == tcTryWaitSnk
  if waiting && !h.runs p .ccDebounce && (h.port p).sinkVbus && !h.autoHeld p then
    match h.rpLane p with
    | none => h
    | some l =>
      if h.tc p == tcAttachWaitSnk && (h.port p).role == 2 && (h.port p).trySrc && !(h.port p).tryDone then
        let h := h.mapPort p fun s => { s with laneA := .open_, laneB := .open_ }
        (h.setTc p tcTrySrc).start p .drpTry (h.prd p TC_TIMER2.drp_try * 1000)
      else
        let h := if h.tc p = tcTryWaitSnk then h.mapPort p fun s => { s with tryDone := true } else h
        h.attachSnk p l
  else h

/-- Leave an attach attempt for an Unattached state. -/
def Hub.giveUp (p : Fin 16) (state : Nat) (h : Hub) : Hub := (h.dropClaims p).enterSearch p state

/-- TRYWAIT_SNK follows TRY_SRC (R101). -/
def Hub.enterTryWait (p : Fin 16) (h : Hub) : Hub :=
  let h := ((h.dropClaims p).stop p .drpTry).stop p .pdDebounce
  (h.mapPort p fun s => { s with laneA := .open_, laneB := .open_ }).setTc p tcTryWaitSnk

/-- Both lanes read Rd, or both Ra: the connection is ignored, and logged once (R93), also over the turns of a DRP, which
sees the partner's terminations only while it searches as source. -/
def Hub.accessorySeen (p : Fin 16) (h : Hub) : Hub :=
  let l := h.lanes p
  if (l.1 = .rd ∧ l.2 = .rd) ∨ (l.1 = .ra ∧ l.2 = .ra) then
    if (h.port p).accessory then h
    else (h.mapPort p fun s => { s with accessory := true }).portEvent p .accessoryIgnored 0
  else if h.tc p = tcUnattachedSrc then h.mapPort p fun s => { s with accessory := false }
  else h

/-- The lanes of a port change (R93, R100): what each state does about it. -/
def Hub.lanesChanged (p : Fin 16) (hadRd hadRp : Option Nat) (h : Hub) : Hub :=
  let t := h.tc p
  let rd := h.rdLane p
  let rp := h.rpLane p
  let both := h.lanes p == (.open_, .open_)
  if t = tcUnattachedSrc then
    let h := h.accessorySeen p
    if rd.isSome then (h.setTc p tcAttachWaitSrc).debounce p .ccDebounce else h
  else if t = tcUnattachedSnk then
    let h := h.accessorySeen p
    if rp.isSome then
      ((h.setTc p tcAttachWaitSnk).debounce p .ccDebounce).start p .tryTimeout
        (h.prd p TC_TIMER2.try_timeout * 10000)
    else h
  else if t = tcAttachWaitSrc then
    if rd.isNone then (if h.runs p .pdDebounce then h else (h.stop p .ccDebounce).debounce p .pdDebounce)
    else if rd = hadRd then h
    else (h.stop p .pdDebounce).debounce p .ccDebounce
  else if t = tcAttachWaitSnk ∨ t = tcTryWaitSnk then
    if both then (if h.runs p .pdDebounce then h else (h.stop p .ccDebounce).debounce p .pdDebounce)
    else if rp.isSome ∧ rp ≠ hadRp then (h.stop p .pdDebounce).debounce p .ccDebounce
    else h
  else if t = tcTrySrc then
    if rd.isNone then h.stop p .pdDebounce else if rd = hadRd then h else h.debounce p .pdDebounce
  else h

/-! ### VCONN and BC 1.2 -/

/-- Close the switch again under R106 on a port still in ATTACHED_SRC with Ra on its other lane, which has not given VCONN
to its partner (R106–R108). -/
def Hub.vconnAgain (p : Fin 16) (h : Hub) : Hub :=
  let other := if h.pis p PORT_STATUS.orient then (h.lanes p).1 else (h.lanes p).2
  if h.tc p == tcAttachedSrc && (h.port p).vconnDuty && other == .ra && !h.vconnSource p then h.vconnApply p else h

/-- The D+/D− short (R113): closed in ATTACHED_SRC under mode DCP while VBUS is within vSafe5V under a 5 V contract. -/
def Hub.bc12Update (p : Fin 16) (h : Hub) : Hub :=
  let away := match (h.port p).pending with | some d => h.pis p PD_STATUS.in_transition && d.volt != 500 | none => false
  let on := h.prd p BC12_CTRL.mode == 1 && h.part.large && h.tc p == tcAttachedSrc && h.pis p PORT_STATUS.vsafe5 &&
    h.prd p STAGE_CTRL.mode == modeForward && (h.contractTarget p).1 == 500 && !away
  h.pwr p BC12_CTRL.short_on on.toNat

/-! ### Draining (R124) -/

/-- Step 4: the port is OFF. -/
def Hub.drainDone (p : Fin 16) (h : Hub) : Hub :=
  let h := (h.mapPort p fun s => { s with drain := .none }).stop p .discharge
  (h.pwr p PORT_STATUS.run 0).setTc p tcOff

/-- Step 3: as source the path goes off and VBUS is discharged; as sink the lanes are released at once. -/
def Hub.drainOff (p : Fin 16) (h : Hub) : Hub :=
  let source := h.isSource p
  let h := h.dropPort p
  if source then (h.mapPort p fun s => { s with drain := .discharge }).enterDischarge p
  else (h.dsOff p).drainDone p

/-- Step 2: Hard Reset, if an explicit contract exists. -/
def Hub.drainReset (p : Fin 16) (h : Hub) : Hub :=
  if h.explicit p then
    let source := h.isSource p
    let h := ((h.hardReset p true).stop p .hrVbusOff).stop p .sinkHr
    let h := h.mapPort p fun s => { s with hr := .none, drain := .hardReset }
    if source then h.start p .drainHardReset 25000 else h.drainOff p
  else h.drainOff p

/-- Step 1 has ended: no frame is on the wire. -/
def Hub.drainNext (p : Fin 16) (h : Hub) : Hub :=
  if (h.port p).drain = .frame ∧ (h.port p).txq = [] then h.drainReset p else h

/-- PORT_CTRL.enable is cleared: stamped from its writer `r` (R126, R627), run reads DRAINING. -/
def Hub.startDrain (r : Nat) (p : Fin 16) (h : Hub) : Hub :=
  let t := h.tc p
  if t = tcOff ∨ t = tcDeadBattery then h
  else
    let h := (h.stamp r).pwr p PORT_STATUS.run 2
    if t = tcAttachedSrc ∨ t = tcAttachedSnk then
      let h := h.mapPort p fun s => { s with drain := .frame, amsq := [], txq := s.txq.take 1 }
      (h.endSwap p 5).drainNext p
    else if t = tcDischarge then h.mapPort p fun s => { s with drain := .discharge }
    else
      let h := ((h.releaseEntries p false).pwr p PORT_STATUS.held 0).stopAllBut p [.rest]
      (h.mapPort p fun s => { s with laneA := .open_, laneB := .open_, shadowMade := false }).drainDone p

/-! ### Meanings -/

/-- CC_OVERVOLTAGE (R92): the lane is isolated, and cc_ov sets; the port's VCONN switch opens whichever lane it is (DESIGN
CHOICE, log entry 104). -/
def execCcOvervoltage (p : Fin 16) (lane : Lane) (s : State) : Host.Outcome State Fault Refusal :=
  .next (onPort p (fun h =>
    let h := h.mapPort p fun x => match lane with
      | .a => { x with isoA := true, ccHolds := true }
      | .b => { x with isoB := true, ccHolds := true }
    ((h.vconnOff p).stamp p.val).portFault p PORT_FAULT.cc_ov) s)

/-- DRP_TOGGLE (R94, R95). -/
def execDrpToggle (p : Fin 16) (s : State) : Host.Outcome State Fault Refusal :=
  .next (onPort p (fun h =>
    if (h.port p).role ≠ 2 then h
    else if h.prd p PORT_CTRL.role ≠ 2 ∧ (h.tc p = tcUnattachedSrc ∨ h.tc p = tcUnattachedSnk) then h.enterUnattached p
    else if h.tc p = tcUnattachedSrc then h.enterSearch p tcUnattachedSnk
    else if h.tc p = tcUnattachedSnk then h.enterSearch p tcUnattachedSrc
    else h) s)

/-- CC_TERMINATION_SEEN (R93, R100): lanes of a port that presents nothing are not looked at (R121). -/
def execCcTerminationSeen (p : Fin 16) (a b : Term) (s : State) : Host.Outcome State Fault Refusal :=
  .next (onPort p (fun h =>
    if h.tc p = tcOff ∨ h.tc p = tcDischarge ∨ h.tc p = tcRest ∨ h.tc p = tcWatch then h
    else
      let rd := h.rdLane p
      let rp := h.rpLane p
      let h := h.mapPort p fun s => { s with laneA := a, laneB := b }
      let level := max (rpLevelOf (h.lanes p).1) (rpLevelOf (h.lanes p).2)
      (h.pwr p PORT_STATUS.partner_rp level).lanesChanged p rd rp) s)

/-- CC_DEBOUNCE_EXPIRY (R100, R105, R111). -/
def execCcDebounceExpiry (p : Fin 16) (s : State) : Host.Outcome State Fault Refusal :=
  .next (onPort p (fun h => h.expire p .ccDebounce fun h => (h.tryAttachSrc p).tryAttachSnk p) s)

/-- PD_DEBOUNCE_EXPIRY (R96, R100, R101). -/
def execPdDebounceExpiry (p : Fin 16) (s : State) : Host.Outcome State Fault Refusal :=
  .next (onPort p (fun h => h.expire p .pdDebounce fun h =>
    if h.tc p = tcAttachWaitSrc then h.giveUp p tcUnattachedSrc
    else if h.tc p = tcAttachWaitSnk ∨ h.tc p = tcTryWaitSnk then h.giveUp p tcUnattachedSnk
    else h.tryAttachSrc p) s)

/-- DRP_TRY_EXPIRY (R101, R110). -/
def execDrpTryExpiry (p : Fin 16) (s : State) : Host.Outcome State Fault Refusal :=
  .next (onPort p (fun h => h.expire p .drpTry fun h => if h.tc p = tcTrySrc then h.enterTryWait p else h) s)

/-- TRY_TIMEOUT_EXPIRY (R101). -/
def execTryTimeoutExpiry (p : Fin 16) (s : State) : Host.Outcome State Fault Refusal :=
  .next (onPort p (fun h => h.expire p .tryTimeout fun h =>
    if h.tc p = tcTrySrc ∨ h.tc p = tcTryWaitSnk then h.giveUp p tcUnattachedSnk else h) s)

/-- VBUS is first within vSafe5V after a start (R112, R175, R238): the implicit claim commits. -/
def Hub.vbusUp (p : Fin 16) (h : Hub) : Hub :=
  let started := !h.ledger.ramps.any fun r => r.port == p
  match (h.port p).swap with
  | some w =>
    if w.step = .turnOn && started && (portEntry h.es p [.tentative]).isSome then h.swapSourceUp p else h
  | none =>
    if h.tc p = tcAttachedSrc ∧ h.prd p PD_STATUS.contract = 0 ∧ started ∧ (portEntry h.es p [.tentative]).isSome then
      let h := ((h.stop p .vbusOn).commitImplicit p).mapPort p fun s => { s with hr := .none }
      (h.pwr p PD_STATUS.ams 0).firstCaps p
    else h

/-- 5 V is back on a sink after a Hard Reset: one that is VCONN source discovers the cable again (R175, R243). -/
def Hub.sinkRediscover (p : Fin 16) (h : Hub) : Hub :=
  if !h.isSource p && (h.port p).hr == .recovering && (h.port p).rediscover && h.vconnSource p then
    (h.mapPort p fun s => { s with rediscover := false, discTries := 0 }).startAms p .discoverCable
  else h

/-- VBUS_VSAFE5V_REACHED (R112, R113). -/
def execVbusVsafe5vReached (p : Fin 16) (s : State) : Host.Outcome State Fault Refusal :=
  .next (onPort p (fun h =>
    ((((h.pwr p PORT_STATUS.vsafe5 1).pwr p PORT_STATUS.vsafe0 0).vbusUp p).sinkRediscover p).bc12Update p) s)

/-- VBUS_ON_TIMEOUT (R112, R118): uvp sets at once and opens no window. -/
def execVbusOnTimeout (p : Fin 16) (s : State) : Host.Outcome State Fault Refusal :=
  .next (onPort p (fun h => h.expire p .vbusOn fun h => (h.stamp p.val).portFault p PORT_FAULT.uvp) s)

/-- VCONN_OVERCURRENT (R107). -/
def execVconnOvercurrent (p : Fin 16) (s : State) : Host.Outcome State Fault Refusal :=
  .next (onPort p (fun h =>
    if h.vconnSource p then
      let h := h.mapPort p fun s => { s with vconnTripped := true }
      ((h.vconnOff p).stamp p.val).portFault p PORT_FAULT.vconn_oc
    else h) s)

/-- VCONN_SUPPLY_LOST (R108): EPR mode ends where VCONN was the hub's (R173). -/
def execVconnSupplyLost (s : State) : Host.Outcome State Fault Refusal :=
  .next (onHub (fun h =>
    if h.vconnGood then
      let lost := h.presentPorts.filter fun p => h.eprMode p && h.vconnSource p
      let h := ({ h with vconnGood := false } : Hub).each h.presentPorts Hub.vconnOff
      let h := (h.event 24 { ev := .vconnSupplyLost }).latchShared 48 (h.noAccess 48) 0
      h.each (h.roundRobin lost) fun p h => (h.exitEpr p).startAms p .eprExit
    else h) s)

/-- VCONN_SUPPLY_RESTORED (R106, R108). -/
def execVconnSupplyRestored (s : State) : Host.Outcome State Fault Refusal :=
  .next (onHub (fun h =>
    if h.vconnGood then h else ({ h with vconnGood := true } : Hub).each h.presentPorts Hub.vconnAgain) s)

/-- VCONN_REVERSE_BLOCK (R606): the switch opens until R106 or R108 applies again. -/
def execVconnReverseBlock (p : Fin 16) (s : State) : Host.Outcome State Fault Refusal :=
  .next (onPort p (Hub.vconnOff p) s)

/-- The old source of a PR_Swap presents Rd from vSafe0V on (R239). -/
def Hub.rdShown (h : Hub) (p : Fin 16) : Bool :=
  match (h.port p).swap with | some w => w.kind == .pr && w.step == .psRdySent | none => false

/-- SOURCE_DETACH (R116, R118, R119, R239): of a port that presents Rp. -/
def execSourceDetach (p : Fin 16) (s : State) : Host.Outcome State Fault Refusal :=
  .next (onPort p (fun h => if h.tc p = tcAttachedSrc ∧ !h.rdShown p then h.detach p else h) s)

/-- SINK_DETACH (R117, R239): of a port that presents Rd, not during a Fast Role Swap or Hard Reset recovery; during a
PR_Swap the VBUS test is suspended, and the command is the verdict of the CC test. -/
def execSinkDetach (p : Fin 16) (s : State) : Host.Outcome State Fault Refusal :=
  .next (onPort p (fun h =>
    let frs := (h.port p).frs != .none && (h.port p).frs != .feeding
    if (h.tc p = tcAttachedSnk ∨ h.rdShown p) ∧ !frs ∧ (h.port p).hr = .none then h.detach p else h) s)

/-- DETACH_WINDOW_CLOSE (R118, R332, R304): the bit sets, and the aggregate source latches. -/
def execDetachWindowClose (p : Fin 16) (s : State) : Host.Outcome State Fault Refusal :=
  .next (onPort p (fun h => h.expire p .detachWindow fun h =>
    let tripped := h.pis p PASS_STATUS.latched && h.prd p PASS_STATUS.trip_cause == tripFast
    let h := (h.pwr p PASS_STATUS.window 0).stamp p.val
    h.portFault p (if tripped then PORT_FAULT.ocp_trip else PORT_FAULT.uvp)) s)

/-- DISCHARGE_TIMEOUT (R120): discharge stays on, and so does the state. -/
def execDischargeTimeout (p : Fin 16) (s : State) : Host.Outcome State Fault Refusal :=
  .next (onPort p (fun h => h.expire p .discharge fun h => h.portEvent p .dischargeTimeout 0) s)

/-- VSAFE0V_REACHED (R121, R124, R175, R236, R313): VBUS is at or below 0.8 V, and DSx is released. -/
def execVsafe0vReached (p : Fin 16) (s : State) : Host.Outcome State Fault Refusal :=
  .next (onPort p (fun h =>
    let wasOff := h.pis p PORT_STATUS.vsafe0
    let h := ((h.pwr p PORT_STATUS.vsafe0 1).pwr p PORT_STATUS.vsafe5 0).mapPort p fun s => { s with sinkVbus := false }
    let h := ((h.freeReleasing p).bc12Update p).dsOff p
    if h.tc p = tcDischarge then h.reachVsafe0 p
    else if h.tc p = tcOff ∨ h.tc p = tcRest then (if wasOff then h else h.startRest p)
    else if h.tc p = tcAttachWaitSrc ∨ h.tc p = tcTrySrc then h.tryAttachSrc p
    else
      match (h.port p).swap with
      | some w => if w.step = .sourceOff then h.swapSourceDown p else h
      | none => h) s)

/-- REST_ELAPSED (R121). -/
def execRestElapsed (p : Fin 16) (s : State) : Host.Outcome State Fault Refusal :=
  .next (onPort p (fun h => h.expire p .rest (Hub.tryLeaveRest p)) s)

/-- DRAIN_HARD_RESET_EXPIRY (R124 step 3). -/
def execDrainHardResetExpiry (p : Fin 16) (s : State) : Host.Outcome State Fault Refusal :=
  .next (onPort p (fun h => h.expire p .drainHardReset (Hub.drainOff p)) s)

/-- SINK_VBUS_DETECTED (R100). -/
def execSinkVbusDetected (p : Fin 16) (s : State) : Host.Outcome State Fault Refusal :=
  .next (onPort p (fun h =>
    if h.tc p = tcUnattachedSnk ∨ h.tc p = tcAttachWaitSnk ∨ h.tc p = tcTryWaitSnk ∨ h.tc p = tcDeadBattery then
      (((h.pwr p PORT_STATUS.vsafe0 0).mapPort p fun s => { s with sinkVbus := true }).tryAttachSnk p)
    else h) s)

end Sys2Proof.Machine
end

