-- ==== Sys2Proof/Machine/PdTx.lean ====
section
/-! DEFINITION. What happens when a message of the hub's has its GoodCRC or has none, when a transition completes, and
when a PD timer runs out (chapter 04), with the meanings of those commands. -/

namespace Sys2Proof.Machine

open Sys2Proof.Reg

/-! ### Transitions (R162, R163) -/

/-- The GoodCRC of Accept (R40, R162): a raise is handed over with both targets held until its start; a lowering of the
voltage follows 25 ms later; an unchanged voltage takes its limit 25 ms later. -/
def Hub.startTransition (p : Fin 16) (h : Hub) : Hub :=
  match (h.port p).pending with
  | none => h
  | some d =>
    let h := h.pwr p PD_STATUS.in_transition 1
    let h := match portEntry h.es p [.tentative] with
      | some i => h.setEntry i { h.es[i] with accepted := true }
      | none => h
    if (h.port p).hrOwed then h.hardReset p true
    else
      let h := h.bc12Update p
      let lim := contractLimit d.pdo d.rdo
      if d.raise then
        let h := (h.pwr p STAGE_VSET.vset d.volt).pwr p STAGE_ILIM.ilim_set lim
        let h := h.pwr p STAGE_STATUS.vset_pending (decide ((h.port p).vsetEff < d.volt)).toNat
        let h := h.pwr p STAGE_STATUS.ilim_pending (decide ((h.port p).ilimEff < lim)).toNat
        (h.mapPort p fun s => { s with vsetHeld := some d.volt, ilimHeld := some lim }).assignStart p .a
      else if d.volt < (h.port p).vsetEff then h.start p .lowering 25000
      else h.start p .psRdy 25000

/-- The set-point of an accepted lowering (R162). -/
def Hub.lowerSetpoint (p : Fin 16) (h : Hub) : Hub :=
  match (h.port p).pending with
  | some d => (h.writeVset p d.volt).writeIlim p (contractLimit d.pdo d.rdo)
  | none => h

/-- The voltage of a transition is reached (R163): the slew has ended, PS_RDY is sent. -/
def Hub.voltageReached (p : Fin 16) (h : Hub) : Hub :=
  match (h.port p).pending with
  | none => h
  | some d =>
    let h := h.stepTo p d.volt
    let h := if h.forward p then h.setStage p stRegulate else h
    let five := decide (475 ≤ d.volt) && decide (d.volt ≤ 550)
    ((h.pwr p PORT_STATUS.vsafe5 five.toNat).pwr p PORT_STATUS.vsafe0 0).send p .psRdy

/-- The GoodCRC of PS_RDY (R163, R190, R168, R173): the entry commits, and the contract takes force. -/
def Hub.enterSourceContract (p : Fin 16) (h : Hub) : Hub :=
  match (h.port p).pending with
  | none => h
  | some d =>
    let first := !(h.port p).firstDone
    let h := h.log { ev := .contractNew, data := d.power, port := some p }
    let h := (h.commitPort p true).enterContract p d
    let h := h.pwr p STAGE_CTRL.cl_kind (pdoKindCode d.pdo.kind)
    let h := h.pwr p PD_EVENT.contract_new 1
    let h := if d.pdo.kind = .fixed then h.stop p .pps else h.start p .pps 14000000
    let h := ((h.dropSpec p).bc12Update p).endAms p
    h.afterSourceContract p first

/-! ### GoodCRC -/

/-- A message of `n` bytes of capabilities has had its first `sent` bytes acknowledged: the partner asks for the next chunk
within 27 ms (R139; log entry 105), or, true, all of it has arrived. -/
def Hub.chunkSent (p : Fin 16) (m : Msg) (words chunks : Nat) (h : Hub) : Hub × Bool :=
  if 26 * chunks < 4 * words then
    (((h.mapPort p fun s => { s with chunkOut := some (m, chunks) }).pwr p PD_STATUS.ams 6).start p .chunk 27000, false)
  else (h.mapPort p fun s => { s with chunkOut := none }, true)

/-- Copy capabilities to 0x0E00 and judge Requests against them from here on (R149); the count and generation word is not
laid out by the spec. -/
def Hub.capsAcked (p : Fin 16) (epr : Bool) (pdos : List Pdo) (h : Hub) : Hub :=
  let f := h.takeFree
  let words := (pdos.map (pdoWord false)).take 11
  let h := f.2.setMsgWords p 0x0E00 (f.1 :: words ++ List.replicate (11 - words.length) 0)
  h.mapPort p fun s => { s with acked := pdos, ackedEpr := epr, capsSent := 0 }

/-- Capabilities have arrived whole (R149, R152): a Request must follow, but to a sink that a source has asked for them. -/
def Hub.allCapsAcked (p : Fin 16) (epr : Bool) (pdos : List Pdo) (h : Hub) : Hub :=
  let h := h.capsAcked p epr pdos
  if h.isSource p then (h.pwr p PD_STATUS.ams 1).awaitReply p (.sourceCaps epr pdos) else h.endAms p

/-- The released reply of a speculative claim has its GoodCRC: PD_STATUS.spec is idle again (log entry 48). -/
def Hub.specDone (p : Fin 16) (h : Hub) : Hub :=
  if h.prd p PD_STATUS.spec = 3 then h.pwr p PD_STATUS.spec 0 else h

/-- SinkTxOK returns while the hub still waits for a Request that it must have (R134, R167). -/
def Hub.pauseNg (p : Fin 16) (h : Hub) : Hub := if h.pis p PD_STATUS.sink_tx_ng then h.setNg p false else h

/-- What the GoodCRC of each message starts or ends. -/
def Hub.acked (p : Fin 16) (m : Msg) (h : Hub) : Hub :=
  match m with
  | .acceptTransition => (h.specDone p).startTransition p
  | .psRdy => h.enterSourceContract p
  | .psRdySwap => h.psRdySwapAcked p
  | .sourceCaps epr pdos =>
    let r := if epr then h.chunkSent p m pdos.length 1 else (h, true)
    if r.2 then r.1.allCapsAcked p epr pdos else r.1
  | .sinkCaps epr pdos =>
    let r := if epr then h.chunkSent p m pdos.length 1 else (h, true)
    if r.2 then r.1.endAms p else r.1
  | .chunk source pdos n =>
    let r := h.chunkSent p (if source then .sourceCaps true pdos else .sinkCaps true pdos) pdos.length (n + 1)
    if !r.2 then r.1 else if source then r.1.allCapsAcked p true pdos else r.1.endAms p
  | .acceptSwap k => h.swapAccepted p k
  | .acceptFrs =>
    if h.pis p SWAP_STATUS.feeding then
      (h.mapPort p fun s => { s with frs := .feedSwapped }).send p .psRdySwap
    else if (h.port p).frs = .frSwapSent then
      (h.mapPort p fun s => { s with frs := .frAccepted }).start p .prPsRdy 15000
    else h
  | .acceptSoftReset => if h.isSource p then h.capsAfterReset p else h.endAms p
  | .eprEnterAck =>
    if h.vconnSource p then
      (if h.pis p PD_STATUS.cable_epr then h.finishEprEntry p else h.discoverCable p 3)
    else if h.mayTakeVconn p then (h.pwr p PD_STATUS.ams 0).requestSwap p .vconn
    else
      let h := h.mapPort p fun s => { s with eprEntry := false }
      h.send p (.eprFailed 3)
  | .eprSucceeded =>
    let h := ((h.pwr p PD_STATUS.epr_mode 1).pwr p PD_EVENT.epr_entered 1).portEvent p .eprEntered 0
    ((h.mapPort p fun s => { s with lastEpr := h.sun.clk }).start p .eprSource 900000).answerCaps p
  | .eprExit => h.answerCaps p
  | .softReset | .getSourceCap | .getSinkCap | .getSinkCapExt | .getStatus | .getBattery | .discoverPartner
  | .request _ | .eprRequest _ _ | .swapRequest _ | .frSwap | .eprKeepAlive => h.awaitReply p m
  | .wait | .reject =>
    let h := h.specDone p
    let h := if h.runs p .senderResponse then (h.pwr p PD_STATUS.ams 0).pauseNg p else h.endAms p
    h.releasePrompt p
  | .waitSwap | .rejectSwap => (h.pwr p SWAP_STATUS.busy 0).endAms p
  | .firmware slot => (h.mapPort p fun s => { s with txSlots := s.txSlots.filter (· != slot) }).peEvent p PE_EVENT.tx_done
  | .discoverCable | .chunkRequest => h
  | .accept | .hardReset | .notSupported | .sourceCapsExt | .sinkCapsExt | .status | .ppsStatus
  | .alertCondition | .alertSource | .eprFailed _ | .eprKeepAliveAck | .vdmAck _ | .vdmNak => h.endAms p

/-- The head of the queue is done with: the next frame goes on the wire, or a drain goes on, or an AMS starts. -/
def Hub.nextFrame (p : Fin 16) (h : Hub) : Hub :=
  let h := if h.runs p .tReceive then h else h.launch p
  (h.drainNext p).pump p

/-- The GoodCRC of the frame on the wire: stamped, counted, and what waits on it goes on (R40, R131). -/
def Hub.goodCrc (p : Fin 16) (h : Hub) : Hub :=
  match (h.port p).txq with
  | [] => h
  | m :: rest =>
    let h := h.stop p .tReceive
    let h := h.mapPort p fun s => match m with
      | .discoverCable => { s with txq := rest, txIdP := s.txIdP + 1 }
      | _ => { s with txq := rest, txId := s.txId + 1 }
    if (h.port p).drain = .frame then h.nextFrame p
    else ((h.stamp p.val).acked p m).nextFrame p

/-! ### No GoodCRC -/

/-- Messages whose failure leads to Hard Reset (R143). -/
def failsHard : Msg → Bool
  | .psRdy | .psRdySwap | .acceptTransition | .softReset | .swapRequest _ | .acceptSwap _ | .frSwap | .acceptFrs
  | .waitSwap | .rejectSwap => true
  | _ => false

/-- Send Source_Capabilities again 150 ms later, or fall silent after the fiftieth resend (R152). -/
def Hub.capsFailed (p : Fin 16) (h : Hub) : Hub :=
  let h := h.pwr p PD_STATUS.ams 0
  if 50 ≤ (h.port p).capsSent then h.pwr p PD_STATUS.pd_silent 1 else h.start p .srcCaps 150000

/-- A transmission has exhausted its retries (R132, R143, R150, R152). -/
def Hub.txFailed (p : Fin 16) (h : Hub) : Hub :=
  match (h.port p).txq with
  | [] => h
  | m :: rest =>
    let h := (h.pbump p PD_CNT2.tx_fail).mapPort p fun s => { s with txq := rest }
    let h := match m with
      | .firmware slot => (h.mapPort p fun s => { s with txSlots := s.txSlots.filter (· != slot) }).peEvent p
          PE_EVENT.tx_done
      | _ => h
    if (h.port p).drain = .frame then h.nextFrame p
    else if failsHard m then h.hardReset p true
    else
      match m with
      | .discoverCable => h.nextFrame p
      | .sourceCaps _ _ => if h.explicit p then h.sendSoftReset p else (h.capsFailed p).nextFrame p
      | _ => h.sendSoftReset p

/-- tReceive runs out (R132). -/
def Hub.noGoodCrc (p : Fin 16) (h : Hub) : Hub :=
  let most := if h.pd3 p then 2 else 3
  if (h.port p).retries < most then
    (h.mapPort p fun s => { s with retries := s.retries + 1 }).start p .tReceive 1000
  else h.txFailed p

/-- sender_response runs out (R152, R167, R170, R229, R239). -/
def Hub.noReply (p : Fin 16) (h : Hub) : Hub :=
  match (h.port p).awaiting with
  | none => h
  | some m =>
    let h := h.mapPort p fun s => { s with awaiting := none }
    match m with
    | .sourceCaps _ _ =>
      let fits := match (h.port p).deal with
        | some d => requestValid (h.port p).acked (h.eprMode p) d.rdo.copied.isSome d.rdo
        | none => false
      if h.explicit p then (if fits then h.endAms p else h.hardReset p true)
      else
        let n := (h.port p).hrSilent + 1
        (h.hardReset p true).mapPort p fun s => { s with hrSilent := n }
    | .request _ | .eprRequest _ _ | .softReset | .eprKeepAlive => h.hardReset p true
    | .swapRequest _ => h.ownSwapEnds p 5
    | .frSwap => h.swapFailed p
    | _ => h.endAms p

/-! ### Hard Reset -/

/-- VBUS goes off 25 ms after a Hard Reset (R175): target 0 V, discharge and VCONN off with it. -/
def Hub.hardResetOff (p : Fin 16) (h : Hub) : Hub :=
  let h := (((h.targetOff p).dsOn p).vconnOff p).pwr p PORT_STATUS.vsafe5 0
  let h := (h.bc12Update p).mapPort p fun s => { s with hr := .off }
  h.start p .hrRecover (h.prd p PD_TIMER.src_recover * 10000)

/-- VCONN, then 5 V come back through a new implicit claim and start (R175); a claim that waits starts when it is granted. -/
def Hub.hardResetRecover (p : Fin 16) (h : Hub) : Hub :=
  let h := h.mapPort p fun s => { s with hr := .recovering }
  let h := if (h.port p).vconnDuty then h.vconnApply p else h
  let h := h.claimLevels p (h.port p).rpLevel
  if h.crd p PE_ANSWER.answer = 1 then h.turnOn p else h

/-! ### Meanings -/

/-- GOODCRC_RECEIVED (R40). -/
def execGoodcrcReceived (p : Fin 16) (s : State) : Host.Outcome State Fault Refusal :=
  .next (onPort p (fun h => if h.runs p .tReceive then h.goodCrc p else h) s)

/-- TRECEIVE_EXPIRY (R132, R143). -/
def execTreceiveExpiry (p : Fin 16) (s : State) : Host.Outcome State Fault Refusal :=
  .next (onPort p (fun h => h.expire p .tReceive (Hub.noGoodCrc p)) s)

/-- FRAME_CRC_ERROR (R158, R165). -/
def execFrameCrcError (p : Fin 16) (s : State) : Host.Outcome State Fault Refusal :=
  .next (onPort p (fun h =>
    if h.attached p && (h.port p).pdOn then (h.pbump p PD_CNT1.rx_crc_err).dropArrival p else h) s)

/-- IGNORED_FRAME (R130). -/
def execIgnoredFrame (p : Fin 16) (kind : Sop) (s : State) : Host.Outcome State Fault Refusal :=
  .next (onPort p (fun h =>
    if h.attached p && (h.port p).pdOn && kind != .sop && !(kind == .sopP && h.vconnSource p) then
      h.pbump p PD_CNT3.rx_ignored
    else h) s)

/-- CHUNK_TIMEOUT (R138; R139, log entry 105): what has been assembled is discarded, or what is being sent is given up. -/
def execChunkTimeout (p : Fin 16) (s : State) : Host.Outcome State Fault Refusal :=
  .next (onPort p (fun h => h.expire p .chunk fun h =>
    (h.mapPort p fun s => { s with chunkData := [], chunkOut := none }).endAms p) s)

/-- DISCOVER_IDENTITY_RETRY (R150, R151): the next attempt, or what follows the last one. -/
def execDiscoverIdentityRetry (p : Fin 16) (s : State) : Host.Outcome State Fault Refusal :=
  .next (onPort p (fun h => h.expire p .discover fun h =>
    if (h.port p).discTries < 3 ∧ (h.port p).discTotal < 20 ∧ h.vconnSource p then h.tryCable p
    else h.afterDiscovery p) s)

/-- SRC_CAPS_RESEND (R152). -/
def execSrcCapsResend (p : Fin 16) (s : State) : Host.Outcome State Fault Refusal :=
  .next (onPort p (fun h => h.expire p .srcCaps fun h =>
    if h.isSource p && !h.explicit p then
      (h.mapPort p fun s => { s with capsSent := s.capsSent + 1 }).startAms p (.sourceCaps false [])
    else h) s)

/-- SENDER_RESPONSE_TIMEOUT (R152, R167). -/
def execSenderResponseTimeout (p : Fin 16) (s : State) : Host.Outcome State Fault Refusal :=
  .next (onPort p (fun h => h.expire p .senderResponse (Hub.noReply p)) s)

/-- BATTERY_POLL (R142): every 30 s to a partner that has a battery, while batt_poll is 1. -/
def execBatteryPoll (p : Fin 16) (s : State) : Host.Outcome State Fault Refusal :=
  .next (onPort p (fun h => h.expire p .battery fun h =>
    let h := h.start p .battery 30000000
    if h.pis p PD_CTRL.batt_poll && h.isSource p && h.pd3 p && !h.autoHeld p then h.startAms p .getBattery else h) s)

/-- PPS_TIMEOUT (R168). -/
def execPpsTimeout (p : Fin 16) (s : State) : Host.Outcome State Fault Refusal :=
  .next (onPort p (fun h => h.expire p .pps fun h => h.hardReset p true) s)

/-- EPR_SOURCE_TIMEOUT (R173). -/
def execEprSourceTimeout (p : Fin 16) (s : State) : Host.Outcome State Fault Refusal :=
  .next (onPort p (fun h => h.expire p .eprSource fun h => h.hardReset p true) s)

/-- Send the hub's request as sink again, for the contract pending or in force. -/
def Hub.repeatRequest (p : Fin 16) (h : Hub) : Hub :=
  match (h.port p).asked <|> (h.port p).deal with
  | some d => (h.pwr p PD_STATUS.wait_held 0).sinkRequest p d.rdo d.pdo d.epr
  | none => h

/-- SINK_WAIT_RETRY (R170). -/
def execSinkWaitRetry (p : Fin 16) (s : State) : Host.Outcome State Fault Refusal :=
  .next (onPort p (fun h => h.expire p .sinkWait (Hub.repeatRequest p)) s)

/-- SINK_PS_RDY_TIMEOUT (R170). -/
def execSinkPsRdyTimeout (p : Fin 16) (s : State) : Host.Outcome State Fault Refusal :=
  .next (onPort p (fun h => h.expire p .sinkPsRdy fun h => h.hardReset p true) s)

/-- SINK_PPS_REFRESH (R170): the Request again, every 8 s. -/
def execSinkPpsRefresh (p : Fin 16) (s : State) : Host.Outcome State Fault Refusal :=
  .next (onPort p (fun h => h.expire p .sinkPps fun h => (h.start p .sinkPps 8000000).repeatRequest p) s)

/-- SINK_EPR_KEEPALIVE (R170): every 375 ms. -/
def execSinkEprKeepalive (p : Fin 16) (s : State) : Host.Outcome State Fault Refusal :=
  .next (onPort p (fun h => h.expire p .sinkEpr fun h => (h.start p .sinkEpr 375000).send p .eprKeepAlive) s)

/-- SINK_TX_NG_EXPIRY (R134): the AMS starts. -/
def execSinkTxNgExpiry (p : Fin 16) (s : State) : Host.Outcome State Fault Refusal :=
  .next (onPort p (fun h => h.expire p .sinkTx (Hub.pump p)) s)

/-- HARD_RESET_VBUS_OFF (R175). -/
def execHardResetVbusOff (p : Fin 16) (s : State) : Host.Outcome State Fault Refusal :=
  .next (onPort p (fun h => h.expire p .hrVbusOff (Hub.hardResetOff p)) s)

/-- HARD_RESET_RECOVER (R175). -/
def execHardResetRecover (p : Fin 16) (s : State) : Host.Outcome State Fault Refusal :=
  .next (onPort p (fun h => h.expire p .hrRecover (Hub.hardResetRecover p)) s)

/-- SINK_HARD_RESET_TIMEOUT (R176): detach unless VBUS is back within vSafe5V. -/
def execSinkHardResetTimeout (p : Fin 16) (s : State) : Host.Outcome State Fault Refusal :=
  .next (onPort p (fun h => h.expire p .sinkHr fun h =>
    if h.pis p PORT_STATUS.vsafe5 then
      (h.mapPort p fun s => { s with hr := .none }).endAms p |>.pwr p PD_STATUS.contract 1
    else h.detach p) s)

/-- LOWERING_SETPOINT (R162). -/
def execLoweringSetpoint (p : Fin 16) (s : State) : Host.Outcome State Fault Refusal :=
  .next (onPort p (fun h => h.expire p .lowering (Hub.lowerSetpoint p)) s)

/-- TRANSITION_COMPLETE (R163): the slew has ended, VBUS has been within 5 % for 1 ms. -/
def execTransitionComplete (p : Fin 16) (s : State) : Host.Outcome State Fault Refusal :=
  .next (onPort p (fun h =>
    match (h.port p).pending with
    | some d =>
      if h.pis p PD_STATUS.in_transition && (h.port p).vsetEff == d.volt && (h.port p).vsetHeld.isNone &&
          !h.runs p .lowering && !h.runs p .psRdy && (h.contractTarget p).1 != d.volt && h.isSource p &&
          !(h.port p).txq.contains .psRdy then
        h.voltageReached p
      else h
    | none => h) s)

/-- PS_RDY_TIMER (R162, R163): an unchanged voltage takes its limit, and PS_RDY is sent. -/
def execPsRdyTimer (p : Fin 16) (s : State) : Host.Outcome State Fault Refusal :=
  .next (onPort p (fun h => h.expire p .psRdy fun h =>
    match (h.port p).pending with
    | some d =>
      let h := if d.raise then h else h.writeIlim p (contractLimit d.pdo d.rdo)
      h.send p .psRdy
    | none => h) s)

end Sys2Proof.Machine
end

