-- ==== Sys2Proof/Machine/Pd.lean ====
section
/-! DEFINITION. The messages a port receives (chapter 04): the table of R141, speculative replies (R154–R160), requests,
capabilities, EPR mode and resets, with the meanings of those commands. -/

namespace Sys2Proof.Machine

open Sys2Proof.Reg

/-! ### Requests as source -/

/-- The contract that a Request for a PDO asks for (R162, R183). -/
def Hub.dealFor (h : Hub) (p : Fin 16) (epr : Bool) (r : Rdo) (d : Pdo) : Deal :=
  let volt := requestVolt d r
  let now := h.contractTarget p
  { rdo := r, pdo := d, epr := epr, volt := volt, amp := r.opCur, power := requestPower d r,
    raise := decide (now.1 < volt) || (now.1 == volt && decide (now.2 < contractLimit d r)) }

/-- The contract that a Request asks for, judged against the acknowledged capabilities (R149, R160, R162, R183). -/
def Hub.dealOf (h : Hub) (p : Fin 16) (epr : Bool) (r : Rdo) : Option Deal :=
  if requestValid (h.port p).acked (h.eprMode p) epr r then
    ((h.port p).acked[r.pos.val - 1]?).map (h.dealFor p epr r)
  else none

/-- The claim of a Request (R183, R216). -/
def claimOf (d : Deal) (spec : Bool) : Claim :=
  { kind := .request, power := d.power, raise := d.raise, pps := d.pdo.kind != .fixed, spec := spec, volt := d.volt }

/-- The claim of the port that waits has been prompted: the entry, or the image that it returns to (R205). -/
def Hub.promptHeld (h : Hub) (i : Fin 64) : Bool :=
  h.es[i].prompted || h.ledger.undo.any fun u => u.owner == h.es[i].owner && u.idx == i && u.image.prompted

/-- A prompt's hold on its budget ends: also in the image that a rollback returns to (R205). -/
def Hub.endPromptHold (i : Fin 64) (h : Hub) : Hub :=
  if h.promptHeld i then
    let clear : Undo → Undo := fun u => if u.idx = i then { u with image := { u.image with prompted := false } } else u
    let h := { h with ledger := { h.ledger with undo := h.ledger.undo.map clear }, freed := true }
    h.setEntry i { h.es[i] with prompted := false }
  else h

/-- Confirm the port's speculative claim at EOP (R157, R593, R629): stamped, counted and logged with its answer; a prompt's
hold ends (R205), and Alerts for its trims are owed (R142). -/
def Hub.confirm (p : Fin 16) (h : Hub) : Hub :=
  match portEntry h.es p [.tentative, .waiting] with
  | none => h
  | some i =>
    let e := h.es[i]
    if e.spec then
      let h := ((h.stop p .promptHold).stamp p.val).log { ev := .request, data := e.power, port := some p }
      let h := (h.endPromptHold i).unmaskFull p
      let h := h.setEntry i { h.es[i] with spec := false }
      let h := if e.st = .tentative then
          let h := { h with alertsDue := h.alertsDue ++ h.ledger.restored e.owner }
          (h.bump HAMPER_CNT1.grants).log { ev := .grant, data := e.power, port := some p }
        else
          let h := { h with ledger := h.ledger.settle e.owner }
          (h.bump HAMPER_CNT1.waits).log { ev := .wait, data := e.power, port := some p }
      h.answer p 5 i.val e.power
    else h

/-- What the entry of a confirmed claim takes from the Request that it turned out to be made for (R161, R162, R216). -/
def Hub.fitEntry (p : Fin 16) (d : Deal) (h : Hub) : Hub :=
  match portEntry h.es p [.tentative, .waiting] with
  | some i =>
    let c := claimOf d false
    h.setEntry i { h.es[i] with raise := d.raise, pps := c.pps, volt := d.volt, floor := h.floorFor p c }
  | none => h

/-- A received request equals the one that was claimed for (R156). -/
def specMatches (c : SpecClaim) (epr : Bool) (r : Rdo) (d : Deal) : Bool :=
  c.epr == epr &&
    (match c.rdo with
      | some q => q.pos == r.pos && q.opCur == r.opCur && q.maxCur == r.maxCur &&
          (d.pdo.kind == .fixed || q.volt == r.volt) && (!epr || q.copied == r.copied)
      | none => c.power == d.power)

/-- Release Accept (R157): the transition is pending; capabilities that a prompt alone asked for, and that have not
started, are no longer needed (R135, R165). -/
def Hub.releaseAccept (p : Fin 16) (d : Deal) (h : Hub) : Hub :=
  let h := h.mapPort p fun s =>
    { s with pending := some d, capsDue := false, capsPrompt := false,
             amsq := if s.capsPrompt then s.amsq.filter fun m => !isCaps m else s.amsq }
  ((h.pwr p PD_STATUS.wait_held 0).pwr p PD_STATUS.ams 2).send p .acceptTransition

/-- Release Wait (R164): the contract stays, the entry stays queued. -/
def Hub.releaseWait (p : Fin 16) (h : Hub) : Hub := (h.pwr p PD_STATUS.wait_held 1).send p .wait

/-- Answer a valid Request: with its speculative claim if that matches and still stands, else with a new claim (R157,
R158). -/
def Hub.answerRequest (p : Fin 16) (epr : Bool) (r : Rdo) (d : Deal) (h : Hub) : Hub :=
  let standing := match portEntry h.es p [.tentative, .waiting] with
    | some i => if h.es[i].spec then some i else none
    | none => none
  let same := match (h.port p).spec with
    | some c => specMatches c epr r d
    | none => false
  match standing, same with
  | some i, true =>
    let granted := h.es[i].st == .tentative
    let h := (h.confirm p).fitEntry p d
    if granted then ((h.pwr p PD_STATUS.spec 3).mapPort p fun s => { s with spec := none }).releaseAccept p d
    else ((h.dropSpec p).pwr p PD_STATUS.spec 3).releaseWait p
  | _, _ =>
    let h := ((h.discardSpec p).stop p .promptHold).claim p (claimOf d false)
    if h.crd p PE_ANSWER.answer = 1 then h.releaseAccept p d else h.releaseWait p

/-- Capabilities that the contract in force no longer fits are out: the partner must answer with a valid Request, and one
that is rejected does not end the wait (R167). -/
def Hub.mustRequest (h : Hub) (p : Fin 16) : Bool :=
  h.runs p .senderResponse && (match portEntry h.es p [.committed] with | some i => h.es[i].overCut | none => false)

/-- A Request arrives whole (R141, R157–R160, R168): while a Hard Reset runs it gets no reply. -/
def Hub.requestReceived (p : Fin 16) (epr : Bool) (r : Rdo) (h : Hub) : Hub :=
  if !h.isSource p then h.refuse p
  else if (h.port p).hr ≠ .none then h.discardSpec p
  else if (h.port p).pending.isSome || h.pis p PD_STATUS.in_transition then h.hardReset p true
  else
    let d := h.dealOf p epr r
    let h := if d.isNone && h.mustRequest p then h else h.gotReply p
    let h := h.mapPort p fun s => { s with prevRdo := some r, lastRequest := h.sun.clk }
    let h := if r.eprCapable then h.pwr p PARTNER_INFO.epr_sink 1 else h
    let h := if h.runs p .pps then h.start p .pps 14000000 else h
    match d with
    | some d => h.answerRequest p epr r d
    | none => (h.discardSpec p).send p .reject

/-- The request that a speculative claim predicts (R154): what has not decoded yet is as in the previous Request; the copied
PDO of a first EPR_Request is the advertised one. -/
def predicted (acked : List Pdo) (epr : Bool) (prev : Rdo) (s : RdoSoFar) : Rdo :=
  let pos := s.pos.getD prev.pos
  { prev with
    pos := pos, opCur := s.opCur.getD prev.opCur,
    maxCur := (match s.maxCur with | some m => some m | none => prev.maxCur), volt := s.volt.getD prev.volt,
    copied := if epr then prev.copied.or ((acked[pos.val - 1]?).map (pdoWord false)) else none }

/-- What has decoded makes the Request invalid whatever follows (R160). -/
def visiblyInvalid (acked : List Pdo) (eprMode : Bool) (s : RdoSoFar) : Bool :=
  match s.pos with
  | none => false
  | some n =>
    match if n.val = 0 then none else acked[n.val - 1]? with
    | none => true
    | some d =>
      let volt := if d.kind = .fixed then some d.vmax else s.volt
      d == Pdo.zero || (decide (8 ≤ n.val) && !eprMode) ||
        (match volt with
          | none => false
          | some v =>
            (match s.opCur with | some c => decide (pdoMaxCurrent d v < c) | none => false) ||
              (d.kind != .fixed && (decide (v < d.vmin) || decide (d.vmax < v) || v % (if d.kind = .pps then 2 else 10) != 0)))

/-- The header and CRC-32 of a control message that the hub sends on SOP as source, as they stand on the wire (R155; log
entry 18): type, data role, revision, power role, MessageID. -/
def Hub.controlFrame (h : Hub) (p : Fin 16) (type_ : Nat) : List Byte :=
  let head := type_ + 0x20 * h.prd p PD_STATUS.data_role + (if h.pd3 p then 0x80 else 0x40) +
    0x100 * h.prd p PD_STATUS.power_role + 0x200 * (h.port p).txId.val
  leBytes 2 head ++ leBytes 4 (crc32 (leBytes 2 head))

/-- Build the Accept and Wait frames at 0x0D80 and 0x0DC0 (R155). -/
def Hub.buildFrames (p : Fin 16) (h : Hub) : Hub :=
  let a := h.controlFrame p 3
  let w := h.controlFrame p 12
  ((h.setBytes (msgAddr p 0x0D80) a).setBytes (msgAddr p 0x0DC0) w).pwr p PD_STATUS.spec 2

/-- Raise a speculative claim, build its frames, and keep what it was built on (R154–R156). -/
def Hub.raiseSpec (p : Fin 16) (c : Claim) (x : SpecClaim) (h : Hub) : Hub :=
  let h := h.claim p { c with spec := true }
  ((h.mapPort p fun s => { s with spec := some x }).buildFrames p).showWait p

/-- A Request's header decodes early (R154, R160): a claim for what it is expected to ask, unless it is seen to be invalid.
A predicted request whose object is no longer advertised names no power, and raises none (log entry 113). -/
def Hub.speculate (p : Fin 16) (epr : Bool) (s : RdoSoFar) (h : Hub) : Hub :=
  let free := (h.port p).spec.isNone && (portEntry h.es p [.tentative]).isNone && (h.port p).pending.isNone &&
    !h.pis p PD_STATUS.in_transition
  let acked := (h.port p).acked
  if h.tc p == tcAttachedSrc && h.isSource p && (h.port p).pdOn && h.pis p PD_CTRL.spec_enable && free &&
      (!epr || h.eprMode p) && !h.autoHeld p && !visiblyInvalid acked (h.eprMode p) s then
    match (h.port p).prevRdo with
    | some prev =>
      let r := predicted acked epr prev s
      match acked[r.pos.val - 1]? with
      | some d =>
        let x := h.dealFor p epr r d
        h.raiseSpec p (claimOf x true) ⟨epr, some r, x.power⟩
      | none => h
    | none =>
      let w := portPower h.es p [.shadow]
      h.raiseSpec p { kind := .request, power := w, raise := true, spec := true } ⟨epr, none, w⟩
  else h

/-- A Request begins to arrive (R154, R165): the port's own messages and prompts wait until it is whole. -/
def Hub.requestArrives (p : Fin 16) (epr : Bool) (s : RdoSoFar) (h : Hub) : Hub :=
  if h.attached p && (h.port p).pdOn then (h.mapPort p fun x => { x with arriving := true }).speculate p epr s else h

/-! ### Stored data -/

/-- Store words after a status word that the spec does not lay out (R136; log entry 14). -/
def Hub.store (p : Fin 16) (o : Nat) (ws : List Word) (h : Hub) : Hub :=
  let f := h.takeFree
  f.2.setMsgWords p o (f.1 :: ws)

/-- Store the partner's capabilities at 0x0E40: a count word, then up to 11 PDOs (R136). -/
def Hub.storePdos (p : Fin 16) (sink : Bool) (pdos : List Pdo) (h : Hub) : Hub :=
  let words := (pdos.map (pdoWord sink)).take 11
  h.setMsgWords p 0x0E40 (BitVec.ofNat 32 words.length :: words ++ List.replicate (11 - words.length) 0)

/-- Store the data of a message, with the chunks before its last, at 0x0EC0 (R136). -/
def Hub.storeData (p : Fin 16) (f : RxFrame) (h : Hub) : Hub :=
  h.setBytes (msgAddr p 0x0EC0) ((messageBytes (h.port p).chunkData f).take 64)

/-- The AMS that asked for what has arrived ends. -/
def Hub.endAsked (p : Fin 16) (h : Hub) : Hub := if (h.port p).awaiting.isSome then h.endAms p else h

/-- Source_Capabilities arrive (R141, R169, R255, R263). -/
def Hub.sourceCapsReceived (p : Fin 16) (epr : Bool) (pdos : List Pdo) (h : Hub) : Hub :=
  let h := h.storePdos p false pdos
  let h := h.mapPort p fun s => { s with partnerSource := pdos }
  let h := (h.pwr p BIV_PORT.src_caps_valid 1).pwr p BIV_PORT.src_pdp (pdos.foldl (fun a d => max a (pdoPower d)) 0)
  let h := match pdos with
    | d :: _ => h.pwr p PARTNER_INFO.unconstrained d.unconstrained.toNat
    | [] => h
  if h.isSource p then h.endAsked p
  else
    let h := (((h.gotReply p).stop p .sinkWait).stop p .sinkPsRdy).pwr p PD_STATUS.wait_held 0
    let h := (h.stop p .sinkHr).mapPort p fun s => { s with hr := .none }
    let choice := if h.pis p SWAP_STATUS.feeding then h.chooseFeed pdos else h.chooseSink p pdos
    match choice with
    | some x => h.sinkRequest p x.1 x.2 epr
    | none => h

/-- Sink_Capabilities arrive (R141, R211, R245, R255): frs_current and the demand follow; a Dual-Role partner is asked for
its Source_Capabilities once. -/
def Hub.sinkCapsReceived (p : Fin 16) (epr : Bool) (pdos : List Pdo) (h : Hub) : Hub :=
  let h := h.storePdos p true pdos
  let h := h.mapPort p fun s => { s with partnerSink := pdos.filter (· != Pdo.zero) }
  let h := match pdos with
    | d :: _ => h.pwr p PARTNER_INFO.frs_current (d.frs.val % 4)
    | [] => h
  let h := if epr then h.pwr p PARTNER_INFO.epr_sink 1 else h
  let dual := match pdos with | d :: _ => d.dualRole | [] => false
  let h := h.endAsked p
  if h.isSource p then
    (if dual && h.explicit p && !h.pis p BIV_PORT.src_caps_valid then h.startAms p .getSourceCap else h)
  else h.armFrs p

/-- Status-like data (R141): it is stored, and a battery's reading reaches BATT_STATUS; the poll of a battery starts with
the report that there is one (R142). -/
def Hub.statusReceived (p : Fin 16) (f : RxFrame) (k : StatusKind) (h : Hub) : Hub :=
  let h := h.storeData p f
  let h := match k with
    | .battery valid charge capacity =>
      let good := valid && charge.val != 3
      let h := ((h.pwr p BATT_STATUS.valid good.toNat).pwr p BATT_STATUS.charge (charge.val % 3)).pwr p
        BATT_STATUS.capacity capacity.toNat
      (h.mapPort p fun s => { s with battClk := some h.sun.clk }).pwr p PD_EVENT.batt_update 1
    | .sinkCapsExt battery =>
      let h := h.pwr p PARTNER_INFO.batteries battery.toNat
      if battery && !h.runs p .battery then h.start p .battery 30000000 else h
    | _ => h
  h.endAsked p

/-- A reply to Discover Identity (R150, R151, R190, R208): the cable's ratings, or the partner's identity and its profile; a
NAK ends the exchange with the partner, and leaves the cable unanswered. -/
def Hub.identityReceived (p : Fin 16) (f : RxFrame) (id : Identity) (h : Hub) : Hub :=
  match id with
  | .cable vid active epr maxV maxI =>
    let i := if maxI.val = 3 then 0 else maxI.val
    let h := h.store p 0x0E80 (f.data.take 7)
    let h := ((h.pwr p CABLE_ID.vid vid.toNat).pwr p CABLE_ID.active active.toNat).pwr p CABLE_ID.epr epr.toNat
    let h := ((h.pwr p CABLE_ID.max_v maxV.val).pwr p CABLE_ID.max_i i).pwr p CABLE_ID.valid 1
    let h := h.mapPort p fun s => { s with cableAnswered := true }
    let h := (h.pwr p PD_STATUS.cable_valid 1).pwr p PD_EVENT.cable_found 1
    let h := (h.pwr p PD_STATUS.cable_5a (if i = 2 then 1 else 0)).pwr p PD_STATUS.cable_epr
      (if i = 2 ∧ maxV.val = 3 ∧ epr then 1 else 0)
    if h.prd p PD_STATUS.ams = 5 then h.afterDiscovery p else h
  | .partner vid pid =>
    let h := h.store p 0x0EA0 (f.data.take 7)
    let h := (h.pwr p PARTNER_INFO.vid vid.toNat).pwr p PD_EVENT.partner_id 1
    let h := h.mapPort p fun s => { s with identity := id, idStored := true }
    let h := match h.card.profiles.find? fun r => r.vid == vid && (r.pid == 0xFFFF || r.pid == pid) with
      | none => h
      | some r =>
        let h := ((h.pwr p PARTNER_INFO.profile r.idx).pwr p PARTNER_INFO.tool r.tool.toNat).mapPort p
          fun s => { s with minAmp := r.minAmp }
        if (h.port p).firstDone then h
        else
          match portEntry h.es p [.shadow] with
          | some j =>
            (h.setEntry j { h.es[j] with power := min r.forecast (h.prd p PORT_LEDGER.port_cap) }).noteFreed h.es
          | none => h
    h.endAsked p
  | .nak => if f.sop = .sop then h.endAsked p else h

/-! ### Replies to the hub's own messages -/

/-- Accept arrives (R170, R174, chapter 06). -/
def Hub.acceptReceived (p : Fin 16) (h : Hub) : Hub :=
  if (h.port p).stale then h.mapPort p fun s => { s with stale := false }
  else
    match (h.port p).awaiting with
    | some (.swapRequest _) => h.ownSwapAccepted p
    | some .frSwap => ((h.gotReply p).mapPort p fun s => { s with frs := .frAccepted }).start p .prPsRdy 15000
    | some .softReset => if h.isSource p then h.capsAfterReset p else h.endAms p
    | some (.request _) | some (.eprRequest _ _) =>
      (((h.gotReply p).abortLeak p).pwr p PD_STATUS.in_transition 1).start p .sinkPsRdy 500000
    | _ => h.unexpected p

/-- Reject arrives (R170, R229, R239 of FR_Swap); to a partner at PD 2.0 it stands for Not_Supported (R133). -/
def Hub.rejectReceived (p : Fin 16) (h : Hub) : Hub :=
  if (h.port p).stale then h.mapPort p fun s => { s with stale := false }
  else
    match (h.port p).awaiting with
    | some (.swapRequest _) => h.ownSwapEnds p 2
    | some .frSwap => h.swapFailed p
    | some (.request _) | some (.eprRequest _ _) => (h.mapPort p fun s => { s with asked := none }).endAms p
    | some .getSourceCap | some .getSinkCap | some .getSinkCapExt | some .getStatus | some .getBattery
    | some .discoverPartner => h.endAms p
    | _ => h.unexpected p

/-- Wait arrives (R170, R229, R239 of FR_Swap). -/
def Hub.waitReceived (p : Fin 16) (h : Hub) : Hub :=
  if (h.port p).stale then h.mapPort p fun s => { s with stale := false }
  else
    match (h.port p).awaiting with
    | some (.swapRequest _) => h.ownSwapWaits p
    | some .frSwap => h.swapFailed p
    | some (.request _) | some (.eprRequest _ _) =>
      ((h.endAms p).pwr p PD_STATUS.wait_held 1).start p .sinkWait 100000
    | _ => h.unexpected p

/-- PS_RDY arrives (R170, chapter 06). -/
def Hub.psRdyReceived (p : Fin 16) (h : Hub) : Hub :=
  if h.swapExpectsPsRdy p then h.swapPsRdy p
  else if (h.port p).frs = .frAccepted then
    let h := ((h.stop p .prPsRdy).pwr p PD_STATUS.power_role 1).setTc p tcAttachedSrc
    h.send p .psRdySwap
  else if (h.port p).frs = .feedSwapped then
    let h := (h.pwr p PD_STATUS.power_role 0).setTc p tcAttachedSnk
    let h := (h.mapPort p fun s => { s with frs := .feeding }).pwr p PD_STATUS.contract 1
    (h.endSwap p 1).endAms p
  else if h.runs p .sinkPsRdy then
    match (h.port p).asked with
    | some d => (h.stop p .sinkPsRdy).enterSinkContract p d
    | none => h.unexpected p
  else h.unexpected p

/-- Not_Supported arrives (R141): it ends the AMS. -/
def Hub.notSupportedReceived (p : Fin 16) (h : Hub) : Hub :=
  let h := h.portEvent p .notSupportedRx 0
  match (h.port p).awaiting with
  | some (.swapRequest _) => h.ownSwapEnds p 7
  | some .frSwap => h.swapFailed p
  | some (.request _) | some (.eprRequest _ _) => (h.mapPort p fun s => { s with asked := none }).endAms p
  | _ => h.endAms p

/-- Soft_Reset arrives (R174): Hard Reset while a transition is pending or in progress, else Accept. -/
def Hub.softResetReceived (p : Fin 16) (h : Hub) : Hub :=
  if (h.port p).pending.isSome || h.pis p PD_STATUS.in_transition then h.hardReset p true
  else (((h.pbump p PD_CNT2.soft_reset).softResetEffects p).pwr p PD_STATUS.ams 8).send p .acceptSoftReset

/-- EPR_Mode (Enter) arrives (R133, R171, R172): what the cable does not decide is checked first. -/
def Hub.eprEnterReceived (p : Fin 16) (h : Hub) : Hub :=
  if !h.isSource p || !h.pd3 p then h.refuse p
  else
    let h := h.pwr p PD_STATUS.ams 4
    let rdoOk := match (h.port p).deal with | some d => d.rdo.eprCapable | none => false
    if !h.pis p PD_CTRL.epr_allow || !h.part.large || h.prd p PD_STATUS.contract != 2 then h.send p (.eprFailed 4)
    else if !rdoOk then h.send p (.eprFailed 2)
    else (h.mapPort p fun s => { s with eprEntry := true }).send p .eprEnterAck

/-! ### Meanings -/

/-- SPECULATIVE_CLAIM (R154, R155, R165). -/
def execSpeculativeClaim (p : Fin 16) (epr : Bool) (r : RdoSoFar) (s : State) : Host.Outcome State Fault Refusal :=
  .next (onPort p (Hub.requestArrives p epr r) s)

/-- REQUEST_RECEIVED (R157); the auto-responder answers Wait (R569). -/
def execRequestReceived (p : Fin 16) (f : RxFrame) (epr : Bool) (r : Rdo) (s : State) :
    Host.Outcome State Fault Refusal :=
  .next (onPort p (fun h => h.receive p f (fun h => if h.isSource p then h.send p .wait else h.refuse p)
    (Hub.requestReceived p epr r)) s)

/-- SOURCE_CAPABILITIES_RECEIVED (R169). -/
def execSourceCapabilitiesReceived (p : Fin 16) (f : RxFrame) (epr : Bool) (pdos : List Pdo) (s : State) :
    Host.Outcome State Fault Refusal :=
  .next (onPort p (fun h => h.receive p f (Hub.sourceCapsReceived p epr pdos) (Hub.sourceCapsReceived p epr pdos)) s)

/-- SINK_CAPABILITIES_RECEIVED (R211). -/
def execSinkCapabilitiesReceived (p : Fin 16) (f : RxFrame) (epr : Bool) (pdos : List Pdo) (s : State) :
    Host.Outcome State Fault Refusal :=
  .next (onPort p (fun h => h.receive p f id (Hub.sinkCapsReceived p epr pdos)) s)

/-- GET_SOURCE_CAP_RECEIVED (R141). -/
def execGetSourceCapReceived (p : Fin 16) (f : RxFrame) (s : State) : Host.Outcome State Fault Refusal :=
  .next (onPort p (fun h => h.receive p f (Hub.refuse p) fun h =>
    if h.isSource p then h.answerCaps p
    else if (h.port p).role = 2 then h.send p (h.fillCaps p (.sourceCaps false [])) else h.refuse p) s)

/-- GET_SINK_CAP_RECEIVED (R141, R631). -/
def execGetSinkCapReceived (p : Fin 16) (f : RxFrame) (s : State) : Host.Outcome State Fault Refusal :=
  .next (onPort p (fun h => h.receive p f (Hub.refuse p) fun h =>
    if h.isSource p && (h.port p).role != 2 then h.refuse p
    else h.send p (.sinkCaps false (h.sinkPdos p false))) s)

/-- ACCEPT_RECEIVED (R170). -/
def execAcceptReceived (p : Fin 16) (f : RxFrame) (s : State) : Host.Outcome State Fault Refusal :=
  .next (onPort p (fun h => h.receive p f (Hub.acceptReceived p) (Hub.acceptReceived p)) s)

/-- REJECT_RECEIVED (R170). -/
def execRejectReceived (p : Fin 16) (f : RxFrame) (s : State) : Host.Outcome State Fault Refusal :=
  .next (onPort p (fun h => h.receive p f (Hub.rejectReceived p) (Hub.rejectReceived p)) s)

/-- WAIT_RECEIVED (R170). -/
def execWaitReceived (p : Fin 16) (f : RxFrame) (s : State) : Host.Outcome State Fault Refusal :=
  .next (onPort p (fun h => h.receive p f (Hub.waitReceived p) (Hub.waitReceived p)) s)

/-- PS_RDY_RECEIVED (R170). -/
def execPsRdyReceived (p : Fin 16) (f : RxFrame) (s : State) : Host.Outcome State Fault Refusal :=
  .next (onPort p (fun h => h.receive p f (Hub.psRdyReceived p) (Hub.psRdyReceived p)) s)

/-- SOFT_RESET_RECEIVED (R174). -/
def execSoftResetReceived (p : Fin 16) (f : RxFrame) (s : State) : Host.Outcome State Fault Refusal :=
  .next (onPort p (fun h => h.receive p f (Hub.softResetReceived p) (Hub.softResetReceived p)) s)

/-- HARD_RESET_RECEIVED (R175–R178). -/
def execHardResetReceived (p : Fin 16) (s : State) : Host.Outcome State Fault Refusal :=
  .next (onPort p (fun h => if (h.port p).pdOn then h.hardReset p false else h) s)

/-- GET_STATUS_RECEIVED (R141): an extended answer, which a partner at PD 2.0 does not get (R133). -/
def execGetStatusReceived (p : Fin 16) (f : RxFrame) (s : State) : Host.Outcome State Fault Refusal :=
  .next (onPort p (fun h => h.receive p f (Hub.refuse p) fun h =>
    if h.pd3 p then h.send p .status else h.refuse p) s)

/-- GET_PPS_STATUS_RECEIVED (R133, R141). -/
def execGetPpsStatusReceived (p : Fin 16) (f : RxFrame) (s : State) : Host.Outcome State Fault Refusal :=
  .next (onPort p (fun h => h.receive p f (Hub.refuse p) fun h =>
    if h.isSource p && h.pd3 p && h.explicit p && h.prd p CONTRACT_PWR.kind != 0 then h.send p .ppsStatus else h.refuse p) s)

/-- GET_SOURCE_CAP_EXT_RECEIVED (R141). -/
def execGetSourceCapExtReceived (p : Fin 16) (f : RxFrame) (s : State) : Host.Outcome State Fault Refusal :=
  .next (onPort p (fun h => h.receive p f (Hub.refuse p) fun h =>
    if h.isSource p && h.pd3 p then h.send p .sourceCapsExt else h.refuse p) s)

/-- GET_SINK_CAP_EXT_RECEIVED (R141). -/
def execGetSinkCapExtReceived (p : Fin 16) (f : RxFrame) (s : State) : Host.Outcome State Fault Refusal :=
  .next (onPort p (fun h => h.receive p f (Hub.refuse p) fun h =>
    if h.pd3 p then h.send p .sinkCapsExt else h.refuse p) s)

/-- ALERT_RECEIVED (R141): a partner at PD 2.0 gets no message for a battery (R133). -/
def execAlertReceived (p : Fin 16) (f : RxFrame) (battery : Bool) (s : State) : Host.Outcome State Fault Refusal :=
  .next (onPort p (fun h => h.receive p f (Hub.refuse p) fun h =>
    let h := (h.pwr p PD_EVENT.partner_alert 1).portEvent p .partnerAlert 0
    let h := (h.storeData p f).startAms p .getStatus
    if battery && h.pd3 p then h.startAms p .getBattery else h) s)

/-- STATUS_DATA_RECEIVED (R138, R139, R141). -/
def execStatusDataReceived (p : Fin 16) (f : RxFrame) (k : StatusKind) (s : State) : Host.Outcome State Fault Refusal :=
  .next (onPort p (fun h => h.receive p f id (Hub.statusReceived p f k)) s)

/-- EPR_MODE_ENTER_RECEIVED (R171, R172). -/
def execEprModeEnterReceived (p : Fin 16) (f : RxFrame) (s : State) : Host.Outcome State Fault Refusal :=
  .next (onPort p (fun h => h.receive p f (Hub.refuse p) (Hub.eprEnterReceived p)) s)

/-- EPR_MODE_EXIT_RECEIVED (R141, R173). -/
def execEprModeExitReceived (p : Fin 16) (f : RxFrame) (s : State) : Host.Outcome State Fault Refusal :=
  .next (onPort p (fun h => h.receive p f (Hub.refuse p) fun h =>
    let h := h.exitEpr p
    if h.isSource p then h.answerCaps p else h) s)

/-- EPR_KEEPALIVE_RECEIVED (R141, R133). -/
def execEprKeepaliveReceived (p : Fin 16) (f : RxFrame) (s : State) : Host.Outcome State Fault Refusal :=
  let act : Hub → Hub := fun h => if h.isSource p && h.pd3 p then h.send p .eprKeepAliveAck else h.refuse p
  .next (onPort p (fun h => h.receive p f act act) s)

/-- EPR_GET_CAP_RECEIVED (R141): a part without EPR, or a partner at PD 2.0 (R133), has neither. -/
def execEprGetCapReceived (p : Fin 16) (f : RxFrame) (source : Bool) (s : State) : Host.Outcome State Fault Refusal :=
  .next (onPort p (fun h => h.receive p f (Hub.refuse p) fun h =>
    let ours := h.isSource p == source
    if !h.part.large || !h.pd3 p || !(ours || (h.port p).role == 2) then h.refuse p
    else if source then h.send p (h.fillCaps p (.sourceCaps true []))
    else h.send p (.sinkCaps true (h.sinkPdos p true))) s)

/-- DISCOVER_IDENTITY_RECEIVED (R141). -/
def execDiscoverIdentityReceived (p : Fin 16) (f : RxFrame) (s : State) : Host.Outcome State Fault Refusal :=
  .next (onPort p (fun h => h.receive p f (Hub.refuse p) fun h =>
    h.send p (if h.card.identity.isEmpty then .vdmNak else .vdmAck h.card.identity)) s)

/-- VDM_RESPONSE_RECEIVED (R151). -/
def execVdmResponseReceived (p : Fin 16) (f : RxFrame) (id : Identity) (s : State) : Host.Outcome State Fault Refusal :=
  .next (onPort p (fun h => h.receive p f (fun h => h) (Hub.identityReceived p f id)) s)

/-- UNSUPPORTED_MESSAGE_RECEIVED (R140, R141). -/
def execUnsupportedMessageReceived (p : Fin 16) (f : RxFrame) (k : Unsupported) (s : State) :
    Host.Outcome State Fault Refusal :=
  .next (onPort p (fun h => h.receive p f (Hub.refuse p) fun h =>
    match k with
    | .structuredVdm => h.send p .vdmNak
    | _ => h.refuse p) s)

/-- NOT_SUPPORTED_RECEIVED (R141). -/
def execNotSupportedReceived (p : Fin 16) (f : RxFrame) (s : State) : Host.Outcome State Fault Refusal :=
  .next (onPort p (fun h => h.receive p f (Hub.notSupportedReceived p) (Hub.notSupportedReceived p)) s)

/-- BIST_RECEIVED (R140, R141): acknowledged; a test changes no state that the spec names, and without a 5 V contract the
message is ignored. -/
def execBistReceived (p : Fin 16) (f : RxFrame) (s : State) : Host.Outcome State Fault Refusal :=
  .next (onPort p (fun h => h.receive p f id id) s)

end Sys2Proof.Machine
end

