-- ==== Sys2Proof/Machine/Hamper.lean ====
section
/-! DEFINITION. The Hamper's commands (chapter 05): claims through the claim interface, prompts that run out, cuts that
are not answered, the audit, ramp positions, AUX entries and vetoes. Register writes that lead here stand in Writes.lean. -/

namespace Sys2Proof.Machine

open Sys2Proof.Reg

/-! ### The claim interface (chapter 17) -/

/-- The Rp level of an implicit claim's power (R109). -/
def levelOf (w : Nat) : Nat := if w ≤ 25 then 0 else if w ≤ 75 then 1 else 2

/-- An implicit claim is granted: what waited for it goes on (R110, R175, R237). -/
def Hub.implicitGranted (p : Fin 16) (h : Hub) : Hub :=
  let h := h.pwr p PORT_STATUS.held 0
  if (h.port p).hr = .recovering ∧ h.tc p = tcAttachedSrc then h.turnOn p
  else (h.swapGranted p).tryAttachSrc p

/-- IMPLICIT (R109, R110): the claim at the written power, then level by level down. -/
def Hub.claimImplicit (p : Fin 16) (w : Nat) (raise : Bool) (h : Hub) : Hub :=
  let level := levelOf w
  let h := h.claim p { kind := .implicit, power := w, raise := raise }
  let h :=
    if h.crd p PE_ANSWER.answer = 1 then h.mapPort p fun s => { s with rpShown := level, implicitTry := level }
    else if level = 0 then h.pwr p PORT_STATUS.held 1
    else ((h.stamp p.val).withdrawWaiting p).claimLevels p (level - 1)
  if h.crd p PE_ANSWER.answer = 1 then h.implicitGranted p else h

/-- REQUEST: the output voltage of a PPS or AVS claim is that of the Request it was made for (R216). -/
def Hub.claimRequest (p : Fin 16) (w : Nat) (raise spec : Bool) (kind : Nat) (h : Hub) : Hub :=
  let volt := match (h.port p).prevRdo with | some r => r.volt | none => 0
  (if spec then h else h.stop p .promptHold).claim p
    { kind := .request, power := w, raise := raise, pps := kind != 0, spec := spec, volt := if kind = 0 then 0 else volt }

/-- STANDBY (R246): granted, the port is armed (R247); else FRS_NOT_ARMED. -/
def Hub.claimStandby (p : Fin 16) (w : Nat) (h : Hub) : Hub :=
  let h := h.freeEntry p [.standby]
  let h := h.claim p { kind := .request, power := w, standby := true }
  if h.crd p PE_ANSWER.answer = 1 then
    ((h.pwr p SWAP_STATUS.frs_armed 1).armStage p).passOn p
  else h.portEvent p .frsNotArmed 0

/-- WITHDRAW (R593): the TENTATIVE entry is rolled back, or the WAITING one freed. -/
def Hub.claimWithdraw (p : Fin 16) (h : Hub) : Hub :=
  let h := h.stamp p.val
  match portEntry h.es p [.tentative] with
  | some i => ((h.rollbackTentative p).dropSpec p).answer p 6 i.val h.es[i].power
  | none =>
    if (portEntry h.es p [.waiting]).isSome then
      ((h.withdrawWaiting p).pwr p PD_STATUS.wait_held 0).pwr p PORT_STATUS.held 0
    else h.answer p 6 0 0

/-- Act on a legal write of PE_CLAIM. -/
def Hub.peClaim (p : Fin 16) (v : Word) (h : Hub) : Hub :=
  let w := PE_CLAIM.power.bits.get v
  let raise := PE_CLAIM.raise.bits.get v = 1
  match PE_CLAIM.op.bits.get v with
  | 1 => h.claimImplicit p w raise
  | 2 => h.claimRequest p w raise (PE_CLAIM.spec.bits.get v = 1) (PE_CLAIM.pd_kind.bits.get v)
  | 3 => h.claimStandby p w
  | 4 => (h.confirm p).mapPort p fun s => { s with spec := none }
  | 5 => h.claimWithdraw p
  | _ => h

/-- Act on a legal write of PE_HANDOVER (R162, R111): the start is assigned once. -/
def Hub.peHandover (p : Fin 16) (v : Word) (h : Hub) : Hub :=
  if h.hasStart p false then h
  else
    match PE_HANDOVER.kind.bits.get v with
    | 1 => h.assignStart p .a
    | 2 => h.assignStart p .b
    | _ => h

/-! ### Vetoes and AUX entries -/

/-- A veto (R192, R198, R202): the TENTATIVE entry is rolled back, or the WAITING one freed. -/
def Hub.veto (p : Fin 16) (h : Hub) : Hub :=
  if (portEntry h.es p [.tentative]).isSome then h.rollbackByHamper p
  else
    match portEntry h.es p [.waiting] with
    | some i => ((h.freeEntry p [.waiting]).pwr p PD_STATUS.wait_held 0).answer p 4 i.val 0
    | none => h

/-- Set a supervisor's AUX_RESULT. -/
def Hub.auxResult (m : Master) (status entry : Nat) (h : Hub) : Hub :=
  (h.mwr m AUX_RESULT.status status).mwr m AUX_RESULT.entry entry

/-- An AUX claim (R183, R193, R196, R225): it commits at once if it fits, under one stamp. -/
def Hub.auxClaim (m : Master) (w : Nat) (a : Access) (h : Hub) : Hub :=
  let h := (h.stamp (masterRequester m)).log { ev := .request, data := w }
  let live := (allEntries.filter fun i => h.es[i].st != .free && h.es[i].kind == .aux).length
  match findEntry h.es (fun e => e.st == EState.free) with
  | none =>
    let h := (h.bump HAMPER_CNT1.waits).bump HAMPER_CNT2.full
    ((h.auxResult m 2 0).log { ev := .wait, data := w }).latchShared 30 a 0
  | some i =>
    if live < 8 ∧ h.short 20 w none = 0 then
      let h := h.setEntry i { Entry.free with
        st := .committed, kind := .aux, power := w, seq := h.seq, owner := h.seq, place := h.stamps }
      let h := ((h.bump HAMPER_CNT1.grants).log { ev := .grant, data := w }).log { ev := .commit, data := w }
      h.auxResult m 1 i.val
    else ((h.bump HAMPER_CNT1.waits).log { ev := .wait, data := w }).auxResult m 2 0

/-- Release an AUX entry (R227). -/
def Hub.auxRelease (m : Master) (i : Fin 64) (h : Hub) : Hub :=
  let h := h.stamp (masterRequester m)
  let h := { h with ledger := h.ledger.settle h.es[i].owner, freed := true }.setEntry i Entry.free
  h.auxResult m 3 i.val

/-! ### The audit (R218–R220) -/

/-- Sum of charges that the limit check compares: COMMITTED, TENTATIVE and STANDBY without over_cut. -/
def Hub.auditCharge (h : Hub) (n : Nat) : Nat :=
  sumUnder h.es n fun e =>
    if e.overCut || e.st == .releasing then 0 else chargeC e + chargeT h.es e + chargeS e

/-- The first failing check of a node: its code, the stored value, and the value found. -/
def Hub.auditNode (h : Hub) (n : Fin 21) : Option (Nat × Nat × Nat) :=
  let t := h.ledger.totals[n]
  let s := nodeSums h.es n.val
  let lim := h.nodeLimit n.val
  let c := h.auditCharge n.val
  if t.committed ≠ s.committed then some (0, t.committed, s.committed)
  else if t.tentative ≠ s.tentative then some (1, t.tentative, s.tentative)
  else if t.standby ≠ s.standby then some (2, t.standby, s.standby)
  else if !h.unlimited n.val && decide (lim < c) then some (3, lim, c)
  else none

/-- The nodes that are present, in order. -/
def Hub.auditNodes (h : Hub) : List (Fin 21) := (List.finRange 21).filter fun n => h.nodePresent n.val

/-- The stored totals become the sums (R189, R219). -/
def Hub.rebuildTotals (h : Hub) : Hub :=
  { h with ledger := { h.ledger with totals := Vector.ofFn fun n => nodeSums h.es n.val } }

/-- The audit at the last stamp. -/
def Hub.audit (h : Hub) : Hub :=
  let bad := h.auditNodes.filterMap fun n => (h.auditNode n).map fun x => (n, x)
  match bad with
  | [] => h
  | (n, c, stored, found) :: _ =>
    let h := if h.is AUDIT_CAPTURE.valid then h
      else ((((h.wr AUDIT_CAPTURE.valid 1).wr AUDIT_CAPTURE.node n.val).wr AUDIT_CAPTURE.check c).wr
        AUDIT_STORED.value stored).wr AUDIT_FOUND.value found
    let h := h.latchShared 29 { master := 23, kind := 7, addr := 0 } 0
    let h := h.rebuildTotals
    h.each (h.auditNodes.filter fun n => match h.auditNode n with | some x => x.1 == 3 | none => false)
      fun n => Hub.cut n.val

/-! ### Positions -/

/-- A position is reached when a slot of target `(c, a)` fires. -/
def due (c : Word) (a : BitVec 16) : RampAt → Bool
  | .pos c' a' =>
    let d := (c' - c).toNat
    0x80000000 ≤ d || (d == 0 && a'.toNat ≤ a.toNat)
  | .override => false

/-- Raise a trimmed entry at a position of kind C (R200, R217). -/
def Hub.restoreTrim (p : Fin 16) (h : Hub) : Hub :=
  match portEntry h.es p [.committed] with
  | none => h.pwr p STAGE_ILIM.ilim_trim 0xFFFF
  | some i =>
    if h.es[i].pps then
      let w := h.restoreTo p i
      let h := h.trimEntry i w
      let h := if h.prd p CONTRACT_PWR.power ≤ w then h.pwr p STAGE_ILIM.ilim_trim 0xFFFF else h
      if (h.risingEntry p).isSome then h.assignStart p .c else h
    else h.pwr p STAGE_ILIM.ilim_trim 0xFFFF

/-- The port's TENTATIVE entry no longer holds a start: it has begun. -/
def Hub.clearRamp (p : Fin 16) (h : Hub) : Hub :=
  match portEntry h.es p [.tentative] with
  | some i => h.setEntry i { h.es[i] with ramp := none, override := false }
  | none => h

/-- A start begins (R221, R292, R293, R298): pending raises apply, the pass switch turns on; PS_RDY of a raise of the
limit alone follows 1 ms later (R163); a start of kind C restores a trim. -/
def Hub.beginStart (r : RampStart) (h : Hub) : Hub :=
  let p := r.port
  let h := { h with ledger := { h.ledger with ramps := h.ledger.ramps.filter (· != r) } }
  match r.kind with
  | .c => h.restoreTrim p
  | _ =>
    let held := (h.port p).vsetHeld
    let moves := match held with | some v => v != (h.port p).vsetEff | none => false
    let h := (((h.clearRamp p).dsOff p).applyRaises p).passOn p
    let h := if r.kind = .b then h.pwr p PORT_STATUS.vsafe0 0 else h
    if r.kind = .a ∧ !moves ∧ h.pis p PD_STATUS.in_transition then h.start p .psRdy 1000 else h

/-- A start keeps to its window on the core clock, measured to 1 µs (R223): one whose position has left it begins at the
window's end there. -/
def Hub.offWindow (h : Hub) (r : RampStart) : Bool :=
  match r.closes with
  | some c => decide (h.sun.clk + 300 < r.opens) || decide (c + 300 < h.sun.clk)
  | none => false

/-- A start waits for the end of its window on the core clock (R223). -/
def Hub.deferStart (r : RampStart) (h : Hub) : Hub :=
  let new := { r with at_ := .override, due := r.closes.getD r.due }
  ({ h with ledger := { h.ledger with ramps := h.ledger.ramps.map fun x => if x = r then new else x } } : Hub).showStart new

/-- A start on the core clock is due, or one at a position has reached its window's end (R221, R223). -/
def Hub.clockDue (h : Hub) (r : RampStart) : Bool :=
  match r.at_ with
  | .override => decide (r.due ≤ h.sun.clk)
  | .pos _ _ => match r.closes with | some c => decide (c ≤ h.sun.clk) | none => false

/-- Budget remains at the hub under run-ahead. -/
def Hub.budgetLeft (h : Hub) : Bool := h.short 20 1 none == 0

/-- Fresh capabilities for one port whose offer has risen by 5.0 W or more, while budget remains (R207). -/
def Hub.freshOne (h : Hub) : Hub :=
  let risen := h.sourcePorts.filter fun p =>
    h.budgetLeft && h.is ENG_STATUS.flask == false && (h.port p).pdOn && h.prd p PD_STATUS.contract != 0 &&
      !(h.port p).acked.isEmpty && !((h.port p).amsq ++ (h.port p).txq).any isCaps &&
      decide (h.prd p CAPS_INFO.offer + 50 ≤ h.offer p)
  match sortBy (fun a b => decide (h.classOf a < h.classOf b) ||
      (h.classOf a == h.classOf b && decide ((h.port a).attachNo < (h.port b).attachNo))) risen with
  | p :: _ => h.freshCaps p
  | [] => h

/-- Give Hamper slot `n` the next ramp position after a tick. -/
def Hub.setRampSlot (n after : Nat) (h : Hub) : Hub :=
  match h.positions (after + 1) (after + 0x20000) 1 with
  | t :: _ => h.setSlot n (BitVec.ofNat 32 (t / 0x10000)) (BitVec.ofNat 16 t)
  | [] => h

/-- The tick of a slot's target. -/
def Hub.slotTick (h : Hub) (n : Nat) : Nat := h.rd (SLOT_TGT_CYCLE.cycle n) * 0x10000 + h.rd (SLOT_TGT_ANGLE.angle n)

/-- Give slot 2 the next audit after a tick (R218). -/
def Hub.setAuditSlot (after : Nat) (h : Hub) : Hub :=
  let a := h.rd AUDIT_CFG.audit_angle
  let t := if after < a then a else a + ((after - a) / 0x8000 + 1) * 0x8000
  h.setSlot 2 (BitVec.ofNat 32 (t / 0x10000)) (BitVec.ofNat 16 t)

/-- The Hamper takes its slots at READY: the next two ramp positions, and the audit. -/
def Hub.armSlots (h : Hub) : Hub :=
  let h := h.setRampSlot 0 h.nowTick
  (h.setRampSlot 1 (h.slotTick 0)).setAuditSlot h.nowTick

/-! ### Meanings -/

/-- PROMPT_HOLD_EXPIRY (R205): prompted clears, and the queue is served but for this entry. -/
def execPromptHoldExpiry (p : Fin 16) (s : State) : Host.Outcome State Fault Refusal :=
  .next (onPort p (fun h => h.expire p .promptHold fun h =>
    let clear : Undo → Undo := fun u =>
      if u.image.st = .waiting ∧ u.image.port = p then { u with image := { u.image with prompted := false } } else u
    let h := { h with ledger := { h.ledger with undo := h.ledger.undo.map clear } }
    match portEntry h.es p [.waiting] with
    | some i =>
      if h.es[i].prompted then
        ((h.stamp 19).setEntry i { h.es[i] with prompted := false }).serveQueueBut (some i)
      else h
    | none => h) s)

/-- CUT_LIMIT_EXPIRY (R215). -/
def execCutLimitExpiry (p : Fin 16) (s : State) : Host.Outcome State Fault Refusal :=
  .next (onPort p (fun h => h.expire p .cutLimit fun h =>
    match portEntry h.es p [.committed] with
    | some i => if h.es[i].overCut then h.hardReset p true else h
    | none => h) s)

/-- AUDIT (R218, R219): slot 2 fires, stamped and not logged (R80). -/
def execAudit (s : State) : Host.Outcome State Fault Refusal :=
  .next (onHub (fun h =>
    if h.slotDue 2 then ((h.stamp 18).setAuditSlot (h.slotTick 2)).audit else h) s)

/-- RAMP_POSITION (R221, R207): slot 0 or 1 fires, stamped and not logged (R80); the starts of the position begin. -/
def execRampPosition (slot : Fin 2) (s : State) : Host.Outcome State Fault Refusal :=
  .next (onHub (fun h =>
    if h.slotDue slot.val then
      let c : Word := BitVec.ofNat 32 (h.rd (SLOT_TGT_CYCLE.cycle slot.val))
      let a : BitVec 16 := BitVec.ofNat 16 (h.rd (SLOT_TGT_ANGLE.angle slot.val))
      let other := h.slotTick (1 - slot.val)
      let h := (h.stamp 18).setRampSlot slot.val (max other (h.slotTick slot.val))
      let begun := h.ledger.ramps.filter fun r => due c a r.at_
      (h.each begun fun r h => if h.offWindow r then h.deferStart r else h.beginStart r).freshOne
    else h) s)

/-- OVERRIDE_START (R221, R223): a start on the core clock, or at the end of its window there. -/
def execOverrideStart (p : Fin 16) (s : State) : Host.Outcome State Fault Refusal :=
  .next (onPort p (fun h =>
    match h.ledger.ramps.find? fun r => r.port == p && r.kind != .c && h.clockDue r with
    | some r => (h.stamp 19).beginStart r
    | none => h) s)

/-- RACK_SHARE takes a new share as a change of the hub limit (R185); a share that differs is logged (chapter 15). -/
def Hub.takeShare (v : Nat) (h : Hub) : Hub :=
  let old := h.hubLimit
  let differs := !h.is RACK_SHARE.valid || h.rd RACK_SHARE.share != v
  let h := ((h.wr RACK_SHARE.share v).wr RACK_SHARE.valid 1).limitChanged 20 old
  if differs then h.event 20 { ev := .shareChanged, data := v, cont := some (leBytes 4 v) } else h

/-- RACK_SHARE_APPLY (R539): slot 3 fires, stamped and not logged (R80). -/
def execRackShareApply (s : State) : Host.Outcome State Fault Refusal :=
  .next (onHub (fun h =>
    if h.slotDue 3 then
      let h := (h.stamp 18).clearSlot 3
      match h.rack.newShare with
      | some v => ({ h with rack := { h.rack with newShare := none } } : Hub).takeShare v
      | none => h
    else h) s)

/-- BURST_DETECT (R209). -/
def execBurstDetect (p : Fin 16) (s : State) : Host.Outcome State Fault Refusal :=
  .next (onPort p (fun h =>
    if h.is HAMPER_CTRL.burst_detect && h.tc p == tcAttachedSrc then h.mapPort p fun s => { s with burst := true }
    else h) s)

end Sys2Proof.Machine
end

