-- ==== Sys2Proof/Machine/Stages.lean ====
section
/-! DEFINITION. The power stages (chapter 07): protections, reverse mode, drains, the half-cycle averages, and the
meanings of the commands that are not register writes. -/

namespace Sys2Proof.Machine

open Sys2Proof.Reg

/-! ### Conditions that readings show -/

/-- Either lane reads above the CC overvoltage threshold, 6.0 V (R91). -/
def ccOver (x : PortSample) : Bool := decide (600 < x.ccA.toNat) || decide (600 < x.ccB.toNat)

/-- The fitted NTC reads above ot_limit or outside −40 to 150 °C (R306, R630). -/
def Hub.ntcOver (h : Hub) (p : Fin 16) (temp : BitVec 16) : Bool :=
  h.pis p STAGE_CFG.ntc_fitted &&
    (decide ((8 * h.prd p STAGE_PROT.ot_limit : Int) < temp.toInt) || decide (temp.toInt < -320) ||
      decide (1200 < temp.toInt))

/-- The OVP threshold: the highest vnow of the last 20 ms, plus trim, plus ovp_margin (R303). -/
def Hub.ovpLimit (h : Hub) (p : Fin 16) : Nat := h.vHigh p + h.trimNow p / 100 + 5 * h.prd p STAGE_PROT.ovp_margin

/-- VCx or VBUS reads above the OVP threshold (R303, R630; log entry 16). -/
def Hub.outOver (h : Hub) (p : Fin 16) (node bus : BitVec 16) : Bool :=
  decide (h.ovpLimit p < bus.toNat) || decide (h.ovpLimit p < node.toNat)

/-- VBUS is below the UVP threshold (R302, R304): vnow − uvp_margin, but in CURRENT_LIMIT 3.10 V under PPS and 14.25 V under
AVS. -/
def Hub.uvpUnder (h : Hub) (p : Fin 16) (bus : BitVec 16) : Bool :=
  let kind := h.prd p STAGE_CTRL.cl_kind
  if h.stage p = stLimit ∧ kind = 1 then decide (bus.toNat < 310)
  else if h.stage p = stLimit ∧ kind = 2 then decide (bus.toNat < 1425)
  else decide (bus.toNat + 5 * h.prd p STAGE_PROT.uvp_margin < h.vnow p)

/-- DSx of a feeding port at Bivouac entry is released once VBUS reads below 4.75 V (R313). -/
def Hub.feedFalls (p : Fin 16) (h : Hub) : Hub :=
  if (h.port p).frs == .signalling && decide ((h.port p).hkBus < 475) then h.dsOff p else h

/-! ### Half-cycle averages -/

/-- One port latches its averages and readings (R284, R286). -/
def Hub.latchPort (p : Fin 16) (x : PortSample) (h : Hub) : Hub :=
  let h := (h.pwr p STAGE_TELEM1.vnode x.vnode.toNat).pwr p STAGE_TELEM1.vbus x.vbus.toNat
  let h := h.pwr p STAGE_TELEM2.temp (if h.pis p STAGE_CFG.ntc_fitted then x.temp.toNat else 0x8000)
  let h := ((h.pwr p STAGE_TELEM2.iout x.iout.toNat).pwr p CC_VOLT.cc_a x.ccA.toNat).pwr p CC_VOLT.cc_b x.ccB.toNat
  let ot := h.ntcOver p x.temp
  let ov := h.outOver p x.node x.bus
  let pins : PortPins := ⟨x.node, x.bus, x.sense, x.vgs, x.temp, x.ccA, x.ccB⟩
  let h := h.mapPort p fun s =>
    { s with ccHolds := ccOver x, otHolds := ot, ovpHolds := s.ovpHolds && ov, pins := pins, hkBus := x.bus.toNat,
             hkNtc := x.temp }
  (h.feedFalls p).retune p

/-- One quad latches its averages; ref_bad clears after four good results (R285). -/
def Hub.latchQuad (q : Fin 4) (x : QuadSample) (h : Hub) : Hub :=
  let h := (h.qwr q HK_VHUB.vhub_avg x.vhubAvg.toNat).qwr q HK_VHUB.vhub x.vhub.toNat
  let h := { h with vhubPins := h.vhubPins.set q x.vhub }
  if x.refGood then h.qwr q HK_STATUS.ref_bad 0 else h

/-- The quads of the part. -/
def Hub.presentQuads (h : Hub) : List (Fin 4) := (List.finRange 4).filter fun q => q.val < h.part.quads

/-- HALF_CYCLE_LATCH (R286). -/
def execHalfCycleLatch (x : HalfCycle) (s : State) : Host.Outcome State Fault Refusal :=
  .next (onHub (fun h =>
    let h := { h with monitors := x.monitors }.each h.presentQuads fun q => Hub.latchQuad q x.quads[q]
    h.each h.presentPorts fun p => Hub.latchPort p x.ports[p]) s)

/-- HK_REFERENCE_FAULT (R285): the four results are counted, ref_bad sets and source 49 + q latches. -/
def execHkReferenceFault (q : Fin 4) (s : State) : Host.Outcome State Fault Refusal :=
  .next (onHub (fun h =>
    if q.val < h.part.quads && h.qrd q HK_STATUS.ref_bad == 0 then
      let n := min 255 (h.qrd q HK_STATUS.ref_fails + 4)
      ((h.qwr q HK_STATUS.ref_fails n).qwr q HK_STATUS.ref_bad 1).latchMonitor (49 + q.val)
    else h) s)

/-! ### Frequency and current limit -/

/-- The switching frequency in force (R281). -/
def Hub.fswNow (h : Hub) (p : Fin 16) : Nat := (h.port p).fswHeld.getD (h.prd p STAGE_CFG.fsw)

/-- A new fsw is written (R281): pending if it differs from the value in force. -/
def Hub.writeFsw (p : Fin 16) (f : Nat) (h : Hub) : Hub :=
  let now := h.fswNow p
  let h := h.pwr p STAGE_CFG.fsw f
  if f = now then (h.mapPort p fun s => { s with fswHeld := none }).pwr p STAGE_STATUS.fsw_pending 0
  else (h.mapPort p fun s => { s with fswHeld := some now }).pwr p STAGE_STATUS.fsw_pending 1

/-- FSW_APPLY (R281). -/
def execFswApply (p : Fin 16) (s : State) : Host.Outcome State Fault Refusal :=
  .next (onPort p (fun h =>
    (h.mapPort p fun x => { x with fswHeld := none }).pwr p STAGE_STATUS.fsw_pending 0) s)

/-- CURRENT_LIMIT_ENTRY (R301). -/
def execCurrentLimitEntry (p : Fin 16) (s : State) : Host.Outcome State Fault Refusal :=
  .next (onPort p (fun h =>
    if h.stage p = stRamp ∨ h.stage p = stRegulate then h.setStage p stLimit else h) s)

/-- CURRENT_LIMIT_EXIT (R301). -/
def execCurrentLimitExit (p : Fin 16) (s : State) : Host.Outcome State Fault Refusal :=
  .next (onPort p (fun h => if h.stage p = stLimit then h.setStage p stRegulate else h) s)

/-! ### Protection -/

/-- OVP_DETECT (R303): VCx or VBUS has been above the threshold for 10 µs; every switch off at once, and ovp sets. -/
def execOvpDetect (r : OverReading) (s : State) : Host.Outcome State Fault Refusal :=
  let p := r.port
  .next (onPort p (fun h =>
    if h.stage p = stOff ∨ !h.outOver p r.node r.bus then h
    else
      let h := (((h.abortLeak p).dropRaises p).setStage p stOff).pwr p STAGE_STATUS.node_ready 0
      let h := h.mapPort p fun x => { x with ovpHolds := true }
      (h.stamp p.val).portFault p PORT_FAULT.ovp) s)

/-- UVP_DETECT (R304, R118): VBUS has stayed below the threshold for 1 ms with the pass switch on (R321); in ATTACHED_SRC the
bit waits for the detach window. -/
def execUvpDetect (r : UnderReading) (s : State) : Host.Outcome State Fault Refusal :=
  let p := r.port
  .next (onPort p (fun h =>
    if h.forward p && h.prd p PASS_STATUS.state == 2 && decide (330 ≤ h.vnow p) && h.uvpUnder p r.bus then
      if h.tc p = tcAttachedSrc then (h.stamp p.val).openWindow p
      else (h.stamp p.val).portFault p PORT_FAULT.uvp
    else h) s)

/-- LOOP_SATURATION (R305). -/
def execLoopSaturation (p : Fin 16) (s : State) : Host.Outcome State Fault Refusal :=
  .next (onPort p (fun h =>
    if h.stage p = stRamp ∨ h.stage p = stRegulate ∨ h.stage p = stEqualise then
      (h.stamp p.val).portFault p PORT_FAULT.loop_sat
    else h) s)

/-- OVERTEMPERATURE (R306). -/
def execOvertemperature (p : Fin 16) (s : State) : Host.Outcome State Fault Refusal :=
  .next (onPort p (fun h =>
    if h.pis p STAGE_CFG.ntc_fitted then
      ((h.mapPort p fun x => { x with otHolds := true }).stamp p.val).portFault p PORT_FAULT.over_temp
    else h) s)

/-! ### Reverse mode and drains -/

/-- REVERSE_EQUALISE (R309 step 2, R297): the target steps to the measured VBUS; DSx was released below 4.75 V. -/
def execReverseEqualise (p : Fin 16) (vbus : BitVec 16) (s : State) : Host.Outcome State Fault Refusal :=
  .next (onPort p (fun h =>
    if h.stage p = stDrain ∧ h.prd p STAGE_CTRL.mode = modeReverse then
      (((h.dsOff p).stepTo p vbus.toNat).pwr p STAGE_STATUS.node_ready 0).setStage p stEqualise
    else h) s)

/-- NODE_READY (R309 step 3, R261): the pass switch closes, in a Fast Role Swap once the pack feeds VBUS. -/
def execNodeReady (p : Fin 16) (s : State) : Host.Outcome State Fault Refusal :=
  .next (onPort p (fun h =>
    if h.stage p = stEqualise then
      let h := h.pwr p STAGE_STATUS.node_ready 1
      if (h.port p).frs = .signalling ∨ h.runs p .frsVbus then h else h.passOn p
    else h) s)

/-- A drain ends: the switches go off; a stage with frs_arm set is idle now, and armed (R311). -/
def Hub.endDrain (p : Fin 16) (h : Hub) : Hub := h.setStage p (if h.pis p STAGE_CTRL.frs_arm then stFrsArmed else stOff)

/-- The stage drains towards OFF (R315). -/
def Hub.drainsOff (h : Hub) (p : Fin 16) : Bool := h.stage p == stDrain && h.prd p STAGE_CTRL.mode != modeReverse

/-- DRAIN_COMPLETE (R315). -/
def execDrainComplete (p : Fin 16) (s : State) : Host.Outcome State Fault Refusal :=
  .next (onPort p (fun h => if h.drainsOff p then h.endDrain p else h) s)

/-- DRAIN_TIMEOUT (R315). -/
def execDrainTimeout (p : Fin 16) (s : State) : Host.Outcome State Fault Refusal :=
  .next (onPort p (fun h => if h.drainsOff p then (h.endDrain p).portEvent p .drainTimeout 0 else h) s)

end Sys2Proof.Machine
end

