-- ==== Sys2Proof/Machine/Carrier.lean ====
section
/-! DEFINITION. What a stage does by itself as its core clock runs (chapters 07, 08): conversions, the loops, the SOA estimator, the
housekeeping frames, and the PWM levels at any moment. -/

namespace Sys2Proof.Machine

open Sys2Proof.Reg

/-! ### PWM outputs -/

/-- The stage's switches work: neither OFF nor FRS_ARMED, and legs are fitted (R273, R275, R311). -/
def Hub.switching (h : Hub) (p : Fin 16) : Bool :=
  h.stage p != stOff && h.stage p != stFrsArmed && h.prd p STAGE_CFG.topology != 3

/-- d_A and d_B (R276): of the leg at the input and the leg at the output, 0 while no switch works and for a leg that the
topology does not fit (R273). -/
def Hub.legDuties (h : Hub) (p : Fin 16) : Int × Int :=
  if h.switching p then
    let d := splitRatio (h.prd p STAGE_STATUS.set) (h.port p).loop.m
    match h.prd p STAGE_CFG.topology, h.reversed p with
    | 1, false => (d.1, 0)
    | 1, true => (0, d.2)
    | 2, false => (0, d.2)
    | 2, true => (d.1, 0)
    | _, _ => d
  else (0, 0)

/-- The carrier period of a port in edge steps (R280, R281). -/
def Hub.carrierLen (h : Hub) (p : Fin 16) : Nat := periodLen (h.fswNow p)

/-- The PWM outputs at this moment (R273, R275, R276, R278, R279): high impedance without VDD33, low in OFF, a leg that is not
fitted low at all times, the legs' roles exchanged in REVERSE. -/
def Hub.pwm (h : Hub) (p : Fin 16) : Pwm :=
  if h.power = .reset ∨ h.power = .ship then Pwm.floating
  else if !h.switching p then Pwm.off
  else
    let len := h.carrierLen p
    let t := carrierSteps len p.val h.sun.clk
    let d := splitRatio (h.prd p STAGE_STATUS.set) (h.port p).loop.m
    let deadA := 10 * h.prd p STAGE_CFG.dead_a
    let deadB := 10 * h.prd p STAGE_CFG.dead_b
    let rev := h.reversed p
    let a := legLevels len (t / len) (t % len) deadA (if rev then 32768 - d.2 else d.1)
    let b := legLevels len (t / len) (t % len) deadB (if rev then d.1 else 32768 - d.2)
    match h.prd p STAGE_CFG.topology with
    | 1 => ⟨a.1, a.2, .low, .low⟩
    | 2 => ⟨.low, .low, b.1, b.2⟩
    | _ => ⟨a.1, a.2, b.1, b.2⟩

/-! ### Conversions and loops -/

/-- The fast conversions of a carrier period (R282, R283, R323): output and pass current. -/
def Hub.convert (p : Fin 16) (h : Hub) : Hub :=
  let s := h.port p
  let iOut := outCurrent s.pins.sense.toInt (h.legDuties p).2
  let node := s.pins.node.toNat
  let iPass := passCurrent iOut (h.prd p PASS_SOA.node_cap) node s.loop.last (h.carrierLen p)
  h.mapLoop p fun l => { l with last := node, iOut := iOut, iPass := iPass }

/-- The loops at the start of carrier period `k` (R276, R277): the mode follows its ratio, the outer loop updates every fourth
period, the inner loop every period. -/
def Hub.runLoops (p : Fin 16) (k : Nat) (h : Hub) : Hub :=
  if h.switching p then
    let h := h.retune p
    let h := if k % 4 = 0 then h.mapLoop p (Loop.outer (h.loopIn p)) else h
    h.mapLoop p (Loop.inner (h.loopIn p))
  else h

/-- One update of the SOA accumulator (R328, R329), and of the highest energy since the last read. -/
def Hub.soaStep (p : Fin 16) (h : Hub) : Hub :=
  let s := h.port p
  let e := soaNext s.soa (soaPower (s.pins.node.toNat - s.pins.bus.toNat : Int) s.loop.iPass) (h.prd p PASS_SOA.leak_shift)
  let h := h.mapPort p fun s => { s with soa := e }
  h.pwr p PASS_ENERGY.peak (max (h.prd p PASS_ENERGY.peak) (min 0xFFFF (e / 10000000)))

/-- A port from core clock `a` to now: a carrier period that has begun, and a microsecond that has passed. -/
def Hub.stageTick (a : Nat) (p : Fin 16) (h : Hub) : Hub :=
  let len := h.carrierLen p
  let k := periodAt len p.val h.sun.clk
  let h := if periodAt len p.val a < k then (h.convert p).runLoops p k else h
  if a / 300 < h.sun.clk / 300 then h.soaStep p else h

/-! ### Housekeeping frames (R284) -/

/-- A housekeeping conversion of a port's VBUS; the trim term integrates with it (R291). -/
def Hub.convertBus (p : Fin 16) (h : Hub) : Hub :=
  let bus := (h.port p).pins.bus.toNat
  let on := h.pis p STAGE_CTRL.drop_comp && h.forward p && h.prd p PASS_STATUS.state == 2
  let trim : Int := if on then clampTo 0 5000 ((h.port p).loop.trim + 25 * ((h.vnow p : Int) - bus)) else 0
  (h.mapPort p fun s => { s with hkBus := bus, loop := { s.loop with trim := trim.toNat } }).feedFalls p

/-- Port `4q + n`. -/
def quadPort (q : Fin 4) (n : Nat) : Fin 16 := ⟨4 * q.val + n % 4, by omega⟩

/-- Slot `n` of frame `f` of a quad's housekeeping ADC has ended (R284). Slot 19, the reference, reaches the hub as its result
(R285). -/
def Hub.hkSlot (f n : Nat) (q : Fin 4) (h : Hub) : Hub :=
  if n < 4 then h.convertBus (quadPort q n)
  else if n = 4 ∨ n = 17 then h.qwr q HK_VHUB.vhub h.vhubPins[q].toNat
  else if n < 13 then
    let p := quadPort q ((n - 5) / 2)
    if n % 2 = 1 then h.pwr p CC_VOLT.cc_a (h.port p).pins.ccA.toNat
    else h.pwr p CC_VOLT.cc_b (h.port p).pins.ccB.toNat
  else if n < 17 then h.convertBus (quadPort q (n - 13))
  else if n = 18 then h.mapPort (quadPort q f) fun s => { s with hkNtc := s.pins.ntc }
  else h

/-- The housekeeping ADCs from core clock `a` to now: slots of 5 µs, 20 to a frame. -/
def Hub.hkTick (a : Nat) (h : Hub) : Hub :=
  if a / 1500 < h.sun.clk / 1500 then h.each h.presentQuads (Hub.hkSlot (a / 30000) (a / 1500 % 20)) else h

/-- What the ports' converters do from core clock `a` to now. -/
def Hub.runStages (a : Nat) (h : Hub) : Hub := (h.each h.presentPorts (Hub.stageTick a)).hkTick a

end Sys2Proof.Machine
end

