-- ==== Sys2Proof/Machine/Pass.lean ====
section
/-! DEFINITION. The pass switch (chapter 08): inrush, limit, trips, the leakage probe, rearming, and the meanings of the
commands that are not register writes. -/

namespace Sys2Proof.Machine

open Sys2Proof.Reg

/-- The switch is commanded on: a trip condition that arises later is ignored (R333). -/
def Hub.commanded (h : Hub) (p : Fin 16) : Bool := h.pis p PASS_STATUS.cmd_on

/-- The drives of the gate (R317). -/
inductive GateDrive where
  | fast
  | inrush (microamps : Nat)
  | limit
  | turnOff
  | pullDown
  | clamp
  deriving DecidableEq, Repr

/-- The inrush gate current in µA (R319). -/
def inrushCurrent (gateI : Nat) : Nat :=
  [20, 25, 32, 40, 50, 63, 80, 101, 127, 160, 202, 254, 320, 403, 508, 640].getD gateI 0

/-- The drive on a port's gate now (R317, R319, R321, R324, R330, R354). -/
def Hub.gateDrive (h : Hub) (p : Fin 16) : GateDrive :=
  let x := (h.port p).pins
  if h.power = .reset ∨ h.power = .ship then .clamp
  else
    match h.prd p PASS_STATUS.state with
    | 1 =>
      if (x.node.toNat - x.bus.toNat : Int).natAbs ≤ 50 then .fast else .inrush (inrushCurrent (h.prd p PASS_INRUSH.gate_i))
    | 2 => .fast
    | 3 => .limit
    | 4 => .pullDown
    | _ => .turnOff

/-- limit_eff (R325). -/
def Hub.limitEff (h : Hub) (p : Fin 16) : Nat :=
  if h.pis p PASS_CTRL.auto_limit then min 6000 (max 1000 ((h.port p).ilimEff * 5 / 4)) else h.prd p PASS_LIMIT.limit

/-- INRUSH_COMPLETE (R321, R309 step 4). -/
def execInrushComplete (p : Fin 16) (s : State) : Host.Outcome State Fault Refusal :=
  .next (onPort p (fun h =>
    let st := h.prd p PASS_STATUS.state
    if h.commanded p && (st == psInrush || st == psLimit) then
      let h := ((h.stop p .inrush).stop p .gate).pwr p PASS_STATUS.state psOn
      if h.stage p = stEqualise then h.setStage p stReverse else h
    else h) s)

/-- PASS_LIMIT_ENTRY (R324). -/
def execPassLimitEntry (p : Fin 16) (s : State) : Host.Outcome State Fault Refusal :=
  .next (onPort p (fun h => if h.commanded p then h.pwr p PASS_STATUS.state psLimit else h) s)

/-- A fast trip (R326, R332): in ATTACHED_SRC the bit waits for the detach window. -/
def Hub.fastTrip (p : Fin 16) (h : Hub) : Hub :=
  if h.tc p = tcAttachedSrc then ((h.tripOff p tripFast).portEvent p .passTrip tripFast).openWindow p
  else h.trip p tripFast PORT_FAULT.ocp_trip

/-- FAST_TRIP (R326, R332). -/
def execFastTrip (p : Fin 16) (s : State) : Host.Outcome State Fault Refusal :=
  .next (onPort p (fun h => if h.commanded p then h.fastTrip p else h) s)

/-- One mJ in units of the accumulator (R328). -/
abbrev soaUnit : Nat := 100000000

/-- The last protection conversion shows the fast trip's condition (R326, R327). -/
def Hub.fastHolds (h : Hub) (p : Fin 16) : Bool := decide (2 * h.limitEff p ≤ (h.port p).loop.iPass.natAbs)

/-- The accumulator has reached the budget (R328). -/
def Hub.soaHolds (h : Hub) (p : Fin 16) : Bool := decide (h.prd p PASS_SOA.soa_budget * soaUnit ≤ (h.port p).soa)

/-- A trip of one of several causes (R333): FAST and SOA come before a trip that arises at the same protection conversion. -/
def Hub.firstTrip (p : Fin 16) (cause : Nat) (f : PField) (h : Hub) : Hub :=
  if h.fastHolds p then h.fastTrip p
  else if h.soaHolds p then h.trip p tripSoa PORT_FAULT.soa_trip
  else h.trip p cause f

/-- INRUSH_TIMEOUT (R322, R331). -/
def execInrushTimeout (p : Fin 16) (s : State) : Host.Outcome State Fault Refusal :=
  .next (onPort p (fun h => h.expire p .inrush fun h => h.firstTrip p tripInrush PORT_FAULT.ocp_trip) s)

/-- SOA_TRIP (R328): the accumulator has reached the budget, and so has the peak. -/
def execSoaTrip (p : Fin 16) (s : State) : Host.Outcome State Fault Refusal :=
  .next (onPort p (fun h =>
    if h.commanded p then
      let e := max (h.port p).soa (h.prd p PASS_SOA.soa_budget * soaUnit)
      let h := (h.mapPort p fun x => { x with soa := e }).pwr p PASS_ENERGY.peak
        (max (h.prd p PASS_ENERGY.peak) (min 0xFFFF (e / 10000000)))
      h.firstTrip p tripSoa PORT_FAULT.soa_trip
    else h) s)

/-- GATE_STUCK (R338). -/
def execGateStuck (p : Fin 16) (s : State) : Host.Outcome State Fault Refusal :=
  .next (onPort p (fun h => h.expire p .gate fun h => h.firstTrip p tripGate PORT_FAULT.gate_stuck) s)

/-! ### The leakage probe -/

/-- LEAK_GO (R339): the probe starts, or leak_result reads NOT_RUN. -/
def Hub.leakGo (p : Fin 16) (h : Hub) : Hub :=
  if h.mayProbe p then (h.abortLeak p).startLeak p else h.pwr p PASS_STATUS.leak_result 5

/-- LEAK_PLATEAU_STEP (R340, R341). -/
def execLeakPlateauStep (p : Fin 16) (s : State) : Host.Outcome State Fault Refusal :=
  .next (onPort p (fun h => h.expire p .leakStep fun h =>
    h.slewTo p (h.prd p LEAK_CFG.leak_v + 200)) s)

/-- The node is drained after the probe (R341). -/
def Hub.drainProbe (p : Fin 16) (h : Hub) : Hub :=
  let h := (h.stepTo p 0).stop p .leakStep
  if h.forward p then h.setStage p stDrain else h

/-- LEAK_PROBE_DONE (R341): LEAKY trips the switch, else PASSED. -/
def execLeakProbeDone (p : Fin 16) (follows : Bool) (s : State) : Host.Outcome State Fault Refusal :=
  .next (onPort p (fun h => h.expire p .leak fun h =>
    let code := if follows then 3 else 2
    let h := (h.pwr p PASS_STATUS.leak_result code).drainProbe p
    let h := h.portEvent p .leakDone code
    if follows then h.trip p tripLeaky PORT_FAULT.leaky_pass else h) s)

/-! ### Rearming -/

/-- The bits whose trips latch the switch off (R336): ocp_trip, soa_trip, gate_stuck, leaky_pass. -/
def Hub.tripBits (h : Hub) (p : Fin 16) : Bool :=
  h.pis p PORT_FAULT.ocp_trip || h.pis p PORT_FAULT.soa_trip || h.pis p PORT_FAULT.gate_stuck ||
    h.pis p PORT_FAULT.leaky_pass

/-- pass_en takes a new value under a writer's stamp where it acts (R320, R336): a rise rearms, a fall while the switch is
commanded on puts the port into safe state. -/
def Hub.writePassEn (r : Nat) (p : Fin 16) (on : Bool) (h : Hub) : Hub :=
  let was := h.pis p PASS_CTRL.pass_en
  let h := h.pwr p PASS_CTRL.pass_en on.toNat
  if on && !was then
    if h.tripBits p then h
    else
      let h := h.pwr p PASS_STATUS.latched 0
      let h := if h.prd p PASS_STATUS.state = psTripped then h.pwr p PASS_STATUS.state psOff else h
      h.tryLeaveRest p
  else if was && !on && h.commanded p then (h.stamp r).safeNow p
  else h

/-- The bits of PORT_FAULT whose cause holds now (R630). -/
def Hub.faultHolds (h : Hub) (p : Fin 16) : Nat :=
  let s := h.port p
  s.ovpHolds.toNat + 64 * s.otHolds.toNat + 128 * s.ccHolds.toNat

/-- A write of 1 to bits of PORT_FAULT (R337, R630, R92, R107): bits whose cause does not hold clear. -/
def Hub.clearPortFault (p : Fin 16) (v : Word) (h : Hub) : Hub :=
  let old := h.word (portKey p 0x40)
  let clear := v &&& ~~~BitVec.ofNat 32 (h.faultHolds p)
  let h := h.setWord (portKey p 0x40) (old &&& ~~~clear)
  let fell := fun (f : PField) => f.bits.get old == 1 && !h.pis p f
  let h := if fell PORT_FAULT.cc_ov then h.mapPort p fun s => { s with isoA := false, isoB := false } else h
  let h := if fell PORT_FAULT.vconn_oc then h.mapPort p fun s => { s with vconnTripped := false } else h
  if fell PORT_FAULT.vconn_oc || fell PORT_FAULT.cc_ov then h.vconnAgain p else h

end Sys2Proof.Machine
end

