-- ==== Sys2Proof/Machine/Card.lean ====
section
/-! DEFINITION. The Route Card (R357–R365): how a copy in flash is checked, how the copy is chosen, and what its records
give the hub. -/

namespace Sys2Proof.Machine

open Sys2Proof.Reg

/-! ### Bytes -/

/-- A byte of a value, 0 beyond its end. -/
def byteAt (l : List Byte) (i : Nat) : Nat := (l.getD i 0).toNat

/-- A little-endian half word. -/
def halfAt (l : List Byte) (i : Nat) : Nat := byteAt l i + 256 * byteAt l (i + 1)

/-- A little-endian word. -/
def wordAt (l : List Byte) (i : Nat) : Nat := halfAt l i + 65536 * halfAt l (i + 2)

/-- Bytes from an index to the end are zero. -/
def zeroFrom (l : List Byte) (i : Nat) : Bool := (l.drop i).all (· == 0)

/-- Copies A and B (R400). -/
def cardBase (copyB : Bool) : Nat := if copyB then 0x081C8000 else 0x081C0000

/-- A record: its offset, type, value, and whether its padding is zero. -/
structure CardRec where
  off : Nat
  type_ : Nat
  value : List Byte
  padded : Bool

/-- A length rounded up to a multiple of 4. -/
def roundUp4 (n : Nat) : Nat := (n + 3) / 4 * 4

/-- Records from an offset to `stop` (R358): the records, and the offset of one that does not fit. -/
def splitRecs : Nat → List Byte → Nat → Nat → List CardRec × Option Nat
  | 0, _, off, stop => ([], if off < stop then some off else none)
  | fuel + 1, bs, off, stop =>
    if stop ≤ off then ([], none)
    else
      let len := halfAt bs 2
      let next := off + 4 + roundUp4 len
      if 4092 < len ∨ stop < next then ([], some off)
      else
        let rest := bs.drop 4
        let r := splitRecs fuel (rest.drop (roundUp4 len)) next stop
        (⟨off, halfAt bs 0, rest.take len, (rest.drop len).take (roundUp4 len - len) |>.all (· == 0)⟩ :: r.1, r.2)

/-! ### Templates (R144) -/

/-- The PDO that a template word spells. -/
def pdoOf (w : Nat) : Option Pdo :=
  match w / 0x40000000, w / 0x10000000 % 4 with
  | 0, _ => some { Pdo.zero with vmin := w / 1024 % 1024 * 5, vmax := w / 1024 % 1024 * 5, amp := w % 1024 * 10 }
  | 3, 0 => some { Pdo.zero with kind := .pps, vmin := w / 256 % 256 * 10, vmax := w / 0x20000 % 256 * 10,
                                 amp := w % 128 * 50 }
  | 3, 1 => some { Pdo.zero with kind := .avs, vmin := w / 256 % 256 * 10, vmax := w / 0x20000 % 512 * 10,
                                 pdp := w % 256 * 10 }
  | _, _ => none

/-- The SPR template is within its limits. -/
def sprTemplate (d : Pdo) : Bool :=
  match d.kind with
  | .fixed => 500 ≤ d.vmax && d.vmax ≤ 2000 && d.amp ≤ 5000
  | .pps => 330 ≤ d.vmin && d.vmin ≤ d.vmax && d.vmax ≤ 2100 && d.amp ≤ 5000
  | .avs | .variable | .battery => false

/-- The EPR template is within its limits. -/
def eprTemplate (d : Pdo) : Bool :=
  match d.kind with
  | .fixed => (d.vmax == 2800 || d.vmax == 3600 || d.vmax == 4800) && d.amp ≤ 5000
  | .pps | .variable | .battery => false
  | .avs => 1500 ≤ d.vmin && d.vmin ≤ d.vmax && d.vmax ≤ 4800 && d.pdp ≤ 2400

/-- Fixed templates stand before all others. -/
def fixedFirst (l : List Pdo) : Bool := (l.dropWhile fun d => d.kind == .fixed).all fun d => d.kind != .fixed

/-- The templates of an SRC_PDO value, SPR then EPR, if all are legal. -/
def templatesOf (v : List Byte) : Option (List Pdo × List Pdo) :=
  let s := byteAt v 2
  let e := byteAt v 3
  let ds := (List.range (s + e)).filterMap fun i => pdoOf (wordAt v (4 + 4 * i))
  let spr := ds.take s
  let epr := ds.drop s
  let first : Bool := match spr with | d :: _ => d.kind == .fixed && d.vmax == 500 | [] => false
  if 1 ≤ s ∧ s ≤ 7 ∧ e ≤ 4 ∧ v.length = 4 + 4 * (s + e) ∧ ds.length = s + e ∧ first ∧ spr.all sprTemplate ∧
      epr.all eprTemplate ∧ fixedFirst spr ∧ fixedFirst epr then some (spr, epr)
  else none

/-! ### Records -/

/-- PORT window words that hold a field whose reset is "Card" (R360). -/
def cardPortWords : List Nat :=
  [0x0, 0x2, 0x3, 0x5, 0x6, 0x10, 0x1D, 0x20, 0x24, 0x28, 0x29, 0x2C, 0x2D, 0x2E, 0x32, 0x33, 0x34, 0x35, 0x36, 0x37,
   0x38, 0x3A, 0x3B, 0x3C, 0x3F]

/-- Registers of blocks 0x0–0xB that hold a field whose reset is "Card". -/
def cardHubWords : List Nat :=
  [0x3, 0x4, 0x80, 0x81, 0x82, 0x1000, 0x1006, 0x1008, 0x2000, 0x2002, 0x2014, 0x2015, 0x2016, 0x2017, 0x300C, 0x5000,
   0x6000, 0x6008, 0x600A, 0x600B, 0x9005]

/-- The PORT record of a port. -/
def portRec (all : List CardRec) (p : Nat) : Option CardRec := all.find? fun r => r.type_ == 2 && byteAt r.value 0 == p

/-- The topology and the bc12 bit that the card gives a port. -/
def recTopology (all : List CardRec) (p : Nat) : Nat :=
  match portRec all p with | some r => byteAt r.value 2 | none => 0

def recBc12 (all : List CardRec) (p : Nat) : Bool :=
  match portRec all p with | some r => (byteAt r.value 1).testBit 7 | none => false

/-- The topology has the modulation mode that force_set names. -/
def forceLegal (topology f : Nat) : Bool :=
  match topology with
  | 0 => true
  | 1 => f ≤ 1
  | 2 => f == 0 || f == 3
  | _ => f == 0

/-- The topology lets a port take a role (R274): a boost-only port is SNK, a pass-only port SRC. -/
def roleFits (topology role : Nat) : Bool := (topology != 2 || role == 1) && (topology != 3 || role == 0)

/-- The codes of a PORT_INIT value that are legal only in some state. -/
def portInitLegal (part : Part) (all : List CardRec) (mask word : Nat) (v : Word) : Bool :=
  allPorts.all fun p =>
    !(mask.testBit p.val && decide (p.val < part.ports)) ||
      (if word = 0x00 then roleFits (recTopology all p.val) (PORT_CTRL.role.bits.get v)
       else if word = 0x06 then !(part.large && BC12_CTRL.mode.bits.get v == 1) || recBc12 all p.val
       else if word = 0x29 then
         forceLegal (recTopology all p.val) (STAGE_CTRL.force_set.bits.get v) &&
           !(recTopology all p.val == 3 && STAGE_CTRL.mode.bits.get v == 2) &&
           !(STAGE_CTRL.dis_test.bits.get v == 1 && STAGE_CTRL.mode.bits.get v != 0)
       else true)

/-- The value of an INIT record is legal on every part that has the units concerned (R361). -/
def initLegal (part : Part) (all : List CardRec) (port : Bool) (sel key : Nat) (value : Nat) : Bool :=
  match findRow (if port then portPortRows else hubRows) key with
  | none => false
  | some row =>
    let v : Word := maskWord value &&& maskWord row.rw
    row.legalValue v && (if port then portInitLegal part all sel key v else key != 0x4 || v.toNat % 8 != 0)

/-- Length, reserved bytes and values of a record (cause RECORD). -/
def recordLegal (part : Part) (all : List CardRec) (r : CardRec) : Bool :=
  let v := r.value
  let n := v.length
  r.padded &&
  match r.type_ with
  | 0x0001 => n == 12 && byteAt v 2 == 0 && byteAt v 3 ≤ 3 && byteAt v 4 ≤ 15 && byteAt v 5 ≤ 15 && byteAt v 6 ≤ 3 &&
      zeroFrom v 7
  | 0x0002 =>
      let role := byteAt v 1 / 2 % 4
      n == 12 && byteAt v 0 ≤ 15 && role ≤ 2 && byteAt v 1 / 8 % 4 ≤ 2 && byteAt v 2 ≤ 3 && halfAt v 4 ≤ 2400 &&
        5 ≤ halfAt v 6 && halfAt v 6 ≤ 200 && (byteAt v 2 == 3 || halfAt v 8 == 0) && zeroFrom v 10 &&
        roleFits (byteAt v 2) role
  | 0x0003 => n == 4 && byteAt v 0 ≤ 3 && byteAt v 1 == 0
  | 0x0004 => (templatesOf v).isSome
  | 0x0005 => n == 8
  | 0x0006 => n == 16 && byteAt v 0 ≤ 63 && byteAt v 1 ≤ 15 && halfAt v 6 ≤ 2400 && zeroFrom v 10
  | 0x0007 => n == 8 && byteAt v 0 ≤ 2 && byteAt v 1 ≤ 1 && 4500 ≤ halfAt v 4 && halfAt v 4 ≤ 6600 && zeroFrom v 6
  | 0x0008 => n % 4 == 0 && 12 ≤ n && n ≤ 24
  | 0x0009 => n == 4 && 1 ≤ byteAt v 0 && byteAt v 0 ≤ 7 && 10 ≤ byteAt v 1 && zeroFrom v 2
  | 0x0010 => n == 8 && halfAt v 2 % 4 == 0 && cardPortWords.contains (halfAt v 2 / 4) &&
      initLegal part all true (halfAt v 0) (halfAt v 2 / 4) (wordAt v 4)
  | 0x0011 => n == 8 && halfAt v 2 == 0 && cardHubWords.contains (halfAt v 0) &&
      initLegal part all false 0 (halfAt v 0) (wordAt v 4)
  | t => 0x8000 ≤ t

/-- Two masks share a port of the part. -/
def sharesPort (part : Part) (a b : Nat) : Bool := a &&& b &&& part.portMask != 0

/-- The count limit that a record would break, given the records before it. -/
def recordCounts (part : Part) (before : List CardRec) (r : CardRec) : Bool :=
  let same := before.filter fun x => x.type_ == r.type_
  match r.type_ with
  | 0x0001 | 0x0007 | 0x0008 | 0x0009 => same.isEmpty
  | 0x0002 | 0x0003 => same.all fun x => byteAt x.value 0 != byteAt r.value 0
  | 0x0004 | 0x0005 => same.all fun x => !sharesPort part (halfAt x.value 0) (halfAt r.value 0)
  | 0x0006 => decide (same.length < 64)
  | _ => true

/-- The record asks for a unit that the part has (R362, cause PART). -/
def recordFits (part : Part) (r : CardRec) : Bool :=
  let v := r.value
  match r.type_ with
  | 0x0001 => part.large || byteAt v 6 / 2 == 0
  | 0x0002 => !(decide (part.ports ≤ byteAt v 0) && (byteAt v 1).testBit 0) &&
      (part.large || (!(byteAt v 1).testBit 7 && decide (halfAt v 4 ≤ 1050)))
  | 0x0004 => part.large || byteAt v 3 == 0
  | 0x0010 =>
      let w := maskWord (wordAt v 4)
      part.large || !((halfAt v 2 == 0x18 && BC12_CTRL.mode.bits.get w == 1) ||
        (halfAt v 2 == 0x40 && PD_CTRL.epr_allow.bits.get w == 1))
  | 0x0011 => part.large || !(halfAt v 0 == 0x80 && (wordAt v 4).testBit 0)
  | _ => true

/-- The offset of the first record that a test with the records before it refuses. -/
def firstBad (test : List CardRec → CardRec → Bool) : List CardRec → List CardRec → Option Nat
  | _, [] => none
  | before, r :: l => if test before r then firstBad test (before ++ [r]) l else some r.off

/-! ### A copy -/

/-- What the check of a copy finds: its first cause (CARD_STATUS codes), the offset for CARD_BAD, its generation, and its
records. -/
structure CopyCheck where
  cause : Nat
  bad : Nat
  gen : Nat
  recs : List CardRec

/-- An invalid copy. -/
def CopyCheck.failed (cause bad : Nat) : CopyCheck := ⟨cause, bad, 0, []⟩

/-- Words of flash from `a` to `b` that hold an uncorrectable error. -/
def Hub.uncorrectable (h : Hub) (a b : Nat) : Bool :=
  (h.upsets.any fun u => a ≤ u.1 && u.1 < b && 3 ≤ u.2) || h.poison.any fun w => a ≤ w && w < b

/-- Check a copy in the order of R364. -/
def Hub.checkCopy (h : Hub) (copyB : Bool) : CopyCheck :=
  let base := cardBase copyB
  let hd := h.memBytes base 16
  let len := halfAt hd 6
  if wordAt hd 0 ≠ 0x434C4F56 then .failed 1 0
  else if halfAt hd 4 ≠ 1 ∨ 7 < byteAt hd 12 ∨ zeroFrom hd 13 = false ∨
      (byteAt hd 12).testBit (match h.part with | .vls1648 => 0 | .vls0848 => 1 | .vls0420 => 2) = false then .failed 2 0
  else if len % 4 ≠ 0 ∨ len < 20 ∨ 16384 < len then .failed 3 0
  else if h.uncorrectable base (base + len) then .failed 7 0
  else if crc32 (h.memBytes base (len - 4)) ≠ h.memNat (base + len - 4) 4 then .failed 4 0
  else
    let s := splitRecs 4096 (h.memBytes (base + 16) (len - 20)) 16 (len - 4)
    let recs := s.1
    match firstBad (fun before r => recordLegal h.part recs r && recordCounts h.part before r) [] recs with
    | some o => .failed 5 o
    | none =>
      match s.2 with
      | some o => .failed 5 o
      | none =>
        if recs.length ≠ halfAt hd 10 ∨ recs.all (fun r => r.type_ != 1) ∨ recs.all (fun r => r.type_ != 7) then
          .failed 5 (len - 4)
        else
          match firstBad (fun _ r => recordFits h.part r) [] recs with
          | some o => .failed 6 o
          | none => ⟨0, 0, halfAt hd 8, recs⟩

/-! ### Applying records (R359, R360) -/

/-- Set words of the RW fields of a register from an INIT value. -/
def Hub.initWord (rows : List RegRow) (row key : Nat) (v : Word) (h : Hub) : Hub :=
  match findRow rows row with
  | some r => h.setWord key (r.store (h.word key) v)
  | none => h

/-- Change what the card in use says of a port. -/
def Hub.mapCard (p : Fin 16) (f : PortCard → PortCard) (h : Hub) : Hub :=
  { h with card := { h.card with ports := h.card.ports.set p (f h.card.ports[p]) } }

/-- A PORT record. -/
def Hub.applyPort (v : List Byte) (p : Fin 16) (h : Hub) : Hub :=
  let b := byteAt v 1
  let bit := fun n => (b.testBit n).toNat
  let h := (((h.pwr p PORT_CTRL.enable (bit 0)).pwr p PORT_CTRL.role (b / 2 % 4)).pwr p PORT_CTRL.rp_level (b / 8 % 4)).pwr p
    PORT_CTRL.try_src (bit 5)
  let h := ((h.pwr p STAGE_CFG.ntc_fitted (bit 6)).pwr p STAGE_CFG.topology (byteAt v 2)).pwr p PASS_SOA.node_cap
    (byteAt v 3)
  let h := (h.pwr p PORT_LEDGER.port_cap (halfAt v 4)).pwr p BC12_CTRL.mode (bit 7)
  h.mapCard p fun c => { c with present := true, bc12 := b.testBit 7, rsense := halfAt v 6, fixedV := halfAt v 8 }

/-- The ports that a mask names, of those present. -/
def Hub.masked (h : Hub) (m : Nat) : List (Fin 16) := h.presentPorts.filter fun p => m.testBit p.val

/-- A profile of the card. -/
def profileRec (v : List Byte) : Profile :=
  { idx := byteAt v 0, tool := (byteAt v 1).testBit 0,
    cls := if (byteAt v 1).testBit 3 then some (byteAt v 1 / 2 % 4) else none,
    vid := BitVec.ofNat 16 (halfAt v 2), pid := BitVec.ofNat 16 (halfAt v 4), forecast := halfAt v 6,
    minAmp := halfAt v 8 }

/-- Apply one record, in card order. -/
def Hub.applyRec (r : CardRec) (h : Hub) : Hub :=
  let v := r.value
  match r.type_ with
  | 0x0001 =>
    let h := { h with card := { h.card with siteRack := byteAt v 4, convoyOffset := byteAt v 5 } }
    let h := (h.wr HUB_CAP.hub_cap (halfAt v 0 + 65536 * byteAt v 2)).wr FAULT_PIN.fault_pin_level (byteAt v 3)
    let h := h.wr CONV_LINK.addr (0x50 + (h.straps.addrC.val + byteAt v 5) % 16)
    (h.wr CONV_LINK.link_en (byteAt v 6 % 2)).wr CONV_RACK.may_lead (byteAt v 6 / 2 % 2)
  | 0x0002 => if hp : byteAt v 0 < 16 then
      (if h.present ⟨byteAt v 0, hp⟩ then h.applyPort v ⟨byteAt v 0, hp⟩ else h) else h
  | 0x0003 =>
    if hq : byteAt v 0 < 4 then
      let l := h.card.quadCap.set (byteAt v 0) (halfAt v 2)
      { h with card := { h.card with quadCap := l } }
    else h
  | 0x0004 =>
    match templatesOf v with
    | some t => h.each (h.masked (halfAt v 0)) fun p => Hub.mapCard p fun c => { c with spr := t.1, epr := t.2 }
    | none => h
  | 0x0005 => h.each (h.masked (halfAt v 0)) fun p => Hub.mapCard p fun c =>
      { c with snkLow := halfAt v 2, snkHigh := halfAt v 4, snkPower := halfAt v 6 }
  | 0x0006 =>
    let l := insertBy (fun (a b : Profile) => decide (a.idx < b.idx)) (profileRec v) h.card.profiles
    { h with card := { h.card with profiles := l } }
  | 0x0007 =>
    let h := (h.wr SUN_CFG.card_source (byteAt v 0)).wr SUN_CFG.acz_wired (byteAt v 1)
    (h.wr SUN_ACZ.acz_offset (halfAt v 2)).wr SUN_FREE_FREQ.free_freq (halfAt v 4)
  | 0x0008 =>
    let l := (List.range (v.length / 4)).map fun i => maskWord (wordAt v (4 * i))
    { h with card := { h.card with identity := l } }
  | 0x0009 =>
    let b := byteAt v 0
    (((h.wr WAKE_CFG.wake_vbus (b % 2)).wr WAKE_CFG.wake_acz (b / 2 % 2)).wr WAKE_CFG.wake_waken (b / 4 % 2)).wr
      WAKE_CFG.watch_idle (byteAt v 1)
  | 0x0010 => h.each (h.masked (halfAt v 0)) fun p =>
      Hub.initWord portPortRows (halfAt v 2 / 4) (portKey p (halfAt v 2 / 4)) (maskWord (wordAt v 4))
  | 0x0011 => h.initWord hubRows (halfAt v 0) (halfAt v 0) (maskWord (wordAt v 4))
  | _ => h

/-- A PORT_INIT of BC12_CTRL that names a port sets mode OFF, wherever it stands in the card (R115). -/
def bc12Off (recs : List CardRec) (p : Fin 16) : Bool :=
  recs.any fun r => r.type_ == 0x10 && halfAt r.value 2 == 0x18 && (halfAt r.value 0).testBit p.val &&
    wordAt r.value 4 % 4 == 0

/-- Apply the card that was chosen. The Sundial takes its source (R348 step 9, R58). -/
def Hub.applyCard (recs : List CardRec) (h : Hub) : Hub :=
  let h := h.each recs Hub.applyRec
  let h := h.each (h.presentPorts.filter (bc12Off recs)) fun p => Hub.pwr p BC12_CTRL.mode 0
  let src := h.rd SUN_CFG.card_source
  let h := { h with sun := { h.sun with cardSource := src } }
  (h.wr SUN_STATUS.active src).wr SUN_FREQ.freq (h.rd SUN_FREE_FREQ.free_freq)

/-- What the check of both copies shows in the registers. -/
def Hub.showCopies (a b : CopyCheck) (h : Hub) : Hub :=
  let h := ((h.wr CARD_STATUS.cause_a a.cause).wr CARD_STATUS.cause_b b.cause).wr CARD_STATUS.valid_a
    (a.cause == 0).toNat
  let h := (h.wr CARD_STATUS.valid_b (b.cause == 0).toNat).wr CARD_GEN.gen_a a.gen
  let h := ((h.wr CARD_GEN.gen_b b.gen).wr CARD_BAD.bad_a a.bad).wr CARD_BAD.bad_b b.bad
  let wa := decide (20000 ≤ h.rd CARD_WEAR.erases_a)
  let wb := decide (20000 ≤ h.rd CARD_WEAR.erases_b)
  ((h.wr CARD_STATUS.worn_a wa.toNat).wr CARD_STATUS.worn_b wb.toNat).wr SYS_STATUS.card_worn (wa || wb).toNat

/-- Read flash words with errors, once each, as the checks of a start do (R402, R403). -/
def Hub.readErrors (a b : Nat) (h : Hub) : Hub :=
  h.each ((h.upsets.filter fun u => a ≤ u.1 && u.1 < b).map (·.1)) fun w h => (h.eccRead w 16 0).1

/-- How much of a copy its check reads: the header, and the whole card once the header stands (R364). -/
def Hub.copySpan (h : Hub) (copyB : Bool) (cause : Nat) : Nat :=
  if cause = 1 ∨ cause = 2 ∨ cause = 3 then 16 else halfAt (h.memBytes (cardBase copyB) 16) 6

/-- Step 9 (R363–R365). -/
def Hub.selectCard (h : Hub) : Hub :=
  let a := h.checkCopy false
  let b := h.checkCopy true
  let sa := h.copySpan false a.cause
  let sb := h.copySpan true b.cause
  let h := ((h.showCopies a b).readErrors (cardBase false) (cardBase false + sa)).readErrors (cardBase true)
    (cardBase true + sb)
  let d := (a.gen + 65536 - b.gen) % 65536
  if a.cause = 0 ∧ (b.cause ≠ 0 ∨ d < 0x8000) then (h.wr SYS_STATUS.card_copy 0).applyCard a.recs
  else if b.cause = 0 then
    let h := (h.wr SYS_STATUS.card_copy 1).applyCard b.recs
    if a.cause = 0 then h else (h.wr SYS_STATUS.card_fallback 1).latchMonitor 20
  else
    let h := (((h.wr SYS_STATUS.card_default 1).wr FAULT_PIN.fault_pin_level 1).wr SUN_CFG.card_source 2).latchMonitor 21
    h.applyCard []

end Sys2Proof.Machine
end

