-- ==== Sys2Proof/Machine/Image.lean ====
section
/-! DEFINITION. Firmware images (chapter 16): headers, the checks of a slot, loading (R381, R405), and Base Camp
(R574, R575). -/

namespace Sys2Proof.Machine

open Sys2Proof.Reg

/-- The address of a slot: A, B (R400). -/
def slotBase (b : Bool) : Nat := if b then 0x080E0000 else 0x08000000

/-- The size of a slot: 896 KiB. -/
abbrev slotSize : Nat := 917504

/-- Entry `i` of the section table: type, offset, size, CRC-32. -/
def sectionAt (hd : List Byte) (i : Nat) : Nat × Nat × Nat × Word :=
  (byteAt hd (32 + 16 * i), wordAt hd (36 + 16 * i), wordAt hd (40 + 16 * i), maskWord (wordAt hd (44 + 16 * i)))

/-- Read a header (R558). -/
def headerOf (hd : List Byte) : ImageHdr :=
  { length := wordAt hd 8, version := maskWord (wordAt hd 12), counter := wordAt hd 16,
    bLink := maskWord (wordAt hd 0xA0), bEntry := maskWord (wordAt hd 0xA4), aEntry := maskWord (wordAt hd 0xA8),
    aRestart := maskWord (wordAt hd 0xAC),
    sections := (List.range (byteAt hd 0x18)).map (sectionAt hd) }

/-- No two sections share a byte. -/
def disjoint : List (Nat × Nat × Nat × Word) → Bool
  | [] => true
  | s :: l => (l.all fun t => s.2.1 + s.2.2.1 ≤ t.2.1 || t.2.1 + t.2.2.1 ≤ s.2.1) && disjoint l

/-- The sections of R560: inside the body, disjoint, one each of types 1, 3 and 4, and type 2 with supervisor B. -/
def sectionsLegal (part : Part) (i : ImageHdr) : Bool :=
  let n := fun k => (i.sections.filter fun s => s.1 == k).length
  1 ≤ i.sections.length && i.sections.length ≤ 8 &&
    (i.sections.all fun s => 1 ≤ s.1 && s.1 ≤ 4 && 256 ≤ s.2.1 && s.2.1 + s.2.2.1 ≤ i.length) &&
    disjoint i.sections && n 1 == 1 && n 3 == 1 && n 4 == 1 && n 2 ≤ 1 && (!part.large || n 2 == 1)

/-- The refuse code of a header (FW_STATUS.refuse): the first check of R560 that fails, 0 for none. -/
def Hub.refuseHeader (h : Hub) (hd : List Byte) : Nat :=
  let i := headerOf hd
  let target := match h.part with | .vls1648 => 0 | .vls0848 => 1 | .vls0420 => 2
  if wordAt hd 0 ≠ 0x464C4F56 then 1
  else if halfAt hd 4 ≠ 1 then 2
  else if (byteAt hd 6).testBit target = false then 3
  else if h.stepping < byteAt hd 7 then 4
  else if i.length % 8 ≠ 0 ∨ i.length < 512 ∨ 917376 < i.length then 5
  else if sectionsLegal h.part i = false then 6
  else if crc32 (hd.take 0xFC) ≠ wordAt hd 0xFC then 7
  else if i.counter < h.rd FW_SLOTS.fuses then 8
  else 0

/-- A slot's header bytes. -/
def Hub.slotHeader (h : Hub) (b : Bool) : List Byte := h.memBytes (slotBase b) 256

/-- The body CRC and every section CRC match, and no word is uncorrectable (R562, R564). -/
def Hub.crcGood (h : Hub) (b : Bool) : Bool :=
  let i := headerOf (h.slotHeader b)
  let a := slotBase b
  !h.uncorrectable a (a + i.length + 128) &&
    crc32 (h.memBytes (a + 256) (i.length - 256)) == wordAt (h.slotHeader b) 0x14 &&
    i.sections.all fun s => crc32 (h.memBytes (a + s.2.1) s.2.2.1) == s.2.2.2.toNat

/-- The key and the signature are good (R559; log entry 10). -/
def Hub.signatureGood (h : Hub) (b : Bool) : Bool :=
  let i := headerOf (h.slotHeader b)
  Config.signatureValid h.fw.keyHash (h.memBytes (slotBase b) i.length) (h.memBytes (slotBase b + i.length) 128)

/-- A slot is a candidate (R564). -/
def Hub.candidate (h : Hub) (b : Bool) : Bool :=
  h.refuseHeader (h.slotHeader b) == 0 && !(if b then h.fw.failedB else h.fw.failedA)

/-- A slot is valid (R564). -/
def Hub.slotValid (h : Hub) (b : Bool) : Bool := h.candidate b && h.crcGood b && h.signatureGood b

/-! ### Loading (R381, R405) -/

/-- Supervisor SRAM and the instruction and data memories of port engines: what a warm restart zeroes. -/
def zeroedAtWarm (a : Nat) : Bool :=
  (0x20000000 ≤ a && a < 0x20040000) || (0x21000000 ≤ a && a < 0x21080000 && a % 0x8000 < 0x6000)

/-- Write those memories to zero (R405). -/
def Hub.zeroEngines (h : Hub) : Hub :=
  { h with
    mem := h.mem.filter fun x => !zeroedAtWarm x.1
    poison := h.poison.filter fun a => !zeroedAtWarm a
    upsets := h.upsets.filter fun x => !zeroedAtWarm x.1 }

/-- The bytes of a section. -/
def Hub.sectionBytes (h : Hub) (b : Bool) (s : Nat × Nat × Nat × Word) : List Byte :=
  h.memBytes (slotBase b + s.2.1) s.2.2.1

/-- Copy one section to where R381 puts it. -/
def Hub.loadSection (b : Bool) (i : ImageHdr) (s : Nat × Nat × Nat × Word) (h : Hub) : Hub :=
  let bytes := h.sectionBytes b s
  match s.1 with
  | 2 => if h.part.large then h.setBytes i.bLink.toNat bytes else h
  | 3 => h.each h.presentPorts fun p => Hub.setBytes (0x21000000 + 0x8000 * p.val) (bytes.take 0x4000)
  | 4 => h.each h.presentPorts fun p => Hub.setBytes (0x21004000 + 0x8000 * p.val) (bytes.take 0x2000)
  | _ => h

/-- Port engines and supervisor B are released (R383), and supervisor A leaves boot ROM for the image. -/
def Hub.releaseEngines (i : ImageHdr) (h : Hub) : Hub :=
  let mask := h.part.portMask
  let h := { h with supKick := Vector.replicate 2 h.sun.clk, peKick := Vector.replicate 16 h.sun.clk }
  let h := ((h.wr PE_RUN.run mask).wr PE_STATUS.halted 0).wr PE_STATUS.halting 0
  let ports := h.presentPorts.map fun p => ((⟨p.val, by omega⟩ : Fin 18), (0 : Word))
  let h := { h with resets := h.resets ++ ports ++ [(16, i.aEntry)] }
  if h.part.large then
    let h := ((h.setWord 0x9004 i.bEntry).wr ENG_CTRL.run_b 1).wr ENG_STATUS.state_b 1
    { h with resets := h.resets ++ [(17, i.bEntry)] }
  else h

/-- Load a slot's images and release the engines (R381–R383). -/
def Hub.loadImage (b : Bool) (h : Hub) : Hub :=
  let i := headerOf (h.slotHeader b)
  let h := h.each i.sections fun s => Hub.loadSection b i s
  let h := (h.wr FW_SLOTS.running b.toNat).wr SYS_STATUS.slot b.toNat
  let h := { h with fw := { h.fw with commitCounter := i.counter } }
  h.releaseEngines i

/-! ### Base Camp -/

/-- Enter Base Camp at the last stamp (R575): boot ROM alone runs; ports present their dead-battery Rd. -/
def Hub.campNow (cause : Nat) (h : Hub) : Hub :=
  let h := ((h.wr SYS_STATUS.basecamp 1).wr SYS_STATUS.ready 0).wr FW_STATUS.phase 5
  let h := ((h.wr PE_RUN.run 0).wr PE_STATUS.halting 0).wr PE_STATUS.halted h.part.portMask
  let h := ((h.wr ENG_CTRL.run_b 0).wr ENG_STATUS.state_b 0).wr ENG_STATUS.state_a 1
  let h := { h with resets := h.resets ++ [(16, 0)] }
  let h := h.each h.presentPorts fun p h =>
    let h := (h.dropPort p).dsOff p
    let h := (h.pwr p PORT_STATUS.tc_state tcDeadBattery).pwr p PORT_STATUS.dead_batt 1
    (h.pwr p PORT_STATUS.run 0).mapPort p fun s => { s with auto := false, drain := .none }
  h.log { ev := .basecampEntered, data := cause }

/-- Enter Base Camp, stamped from a requester. -/
def Hub.enterCamp (r cause : Nat) (h : Hub) : Hub := (h.stamp r).campNow cause

end Sys2Proof.Machine
end

