-- ==== Sys2Proof/Machine/Startup.lean ====
section
/-! DEFINITION. What a power-on reset leaves, the start sequence and READY (R344–R356, R122, R123), erases of a Route Card copy
(R366, R367). -/

namespace Sys2Proof.Machine

open Sys2Proof.Reg

/-! ### Power-on reset -/

/-- Registers that keep their value through a power-on reset, because a latch, a strap, flash or OTP holds it: erases of
the card copies, the boot selector and the fuses, the serial. -/
def Hub.keptRegs (h : Hub) (wake : Word) : List (Nat × Word) :=
  let keep : List (Nat × Word) :=
    [(0x5, wake), (0x5000, BitVec.ofNat 32 (0x642841 + h.straps.addrH.val * 0x100)),
     (0x6000, BitVec.ofNat 32 (0x500001 + h.straps.addrC.val * 0x10000)),
     (0xC, h.word 0xC), (0x600C, h.word 0x600C),
     (0x8000, maskWord ((h.rd FW_SLOTS.fuses) * 0x10000 + h.rd FW_SLOTS.selected * 0x20))]
  keep.foldl (fun l x => sparseSet (resetWord h.part) l x.1 x.2) []

/-- Every engine starts over. -/
def allResets : List (Fin 18 × Word) := (List.finRange 18).map fun e => (e, if e.val = 17 then 0x20000000 else 0)

/-- Flash keeps its content and its errors; SRAM is lost (R346). -/
def Hub.flashMem (h : Hub) : List (Nat × BitVec 8) := h.mem.filter fun x => isFlash x.1

/-- Power-on reset (R346): the hub as it is held in reset, or in Ship mode. -/
def Hub.powerReset (wake : Word) (h : Hub) : Hub :=
  let n := Hub.powerOn h.part h.stepping h.straps h.fw.keyHash (h.keptRegs wake) h.flashMem h.freeCount
  { n with
    upsets := h.upsets.filter fun x => isFlash x.1
    fw := { n.fw with programmed := h.fw.programmed }
    resets := allResets }

/-- WAKE_CAUSE of a start from the lockout. -/
abbrev wakeCold : Word := 8

/-! ### Steps 5 to 11 -/

/-- Step 6 (R350). -/
def Hub.readTrim (good : Bool) (h : Hub) : Hub := if good then h else (h.wr SYS_STATUS.trim_bad 1).latchMonitor 56

/-- Ports whose fast ADC, current sense or housekeeping ADC failed (R353). -/
def Hub.calFailed (h : Hub) (ports : BitVec 16) (quads : BitVec 4) : List (Fin 16) :=
  h.presentPorts.filter fun p => ports.getLsbD p.val || quads.getLsbD (p.val / 4)

/-- Step 8 (R352, R353): CAL_STATUS, and source 49 + q for each failure. -/
def Hub.calibrate (ports : BitVec 16) (quads : BitVec 4) (h : Hub) : Hub :=
  let bad := h.calFailed ports quads
  let h := (h.wr CAL_STATUS.port_fail (bad.foldl (fun a p => a + 2 ^ p.val) 0)).wr CAL_STATUS.hk_fail
    (quads.toNat % 2 ^ h.part.quads)
  let h := h.each (h.presentPorts.filter fun p => ports.getLsbD p.val) fun p => Hub.latchMonitor (49 + p.val / 4)
  h.each ((List.range h.part.quads).filter fun q => quads.getLsbD q) fun q => Hub.latchMonitor (49 + q)

/-- A port that failed calibration starts with enable 0 (R353). -/
def Hub.disableFailed (h : Hub) : Hub :=
  h.each (h.presentPorts.filter fun p => (h.rd CAL_STATUS.port_fail).testBit p.val) fun p =>
    Hub.pwr p PORT_CTRL.enable 0

/-- The versions of both slots. -/
def Hub.showVersions (h : Hub) : Hub :=
  let v := fun (b : Bool) => if h.refuseHeader (h.slotHeader b) = 0 then (headerOf (h.slotHeader b)).version else 0
  (h.setWord 0x8001 (v false)).setWord 0x8002 (v true)

/-- The inactive slot's flags follow the running slot (FW_SLOTS). -/
def Hub.showInactive (h : Hub) : Hub :=
  let b := !h.is FW_SLOTS.running
  let v := if b then h.fw.verifiedB else h.fw.verifiedA
  let e := (if b then h.fw.writtenB else h.fw.writtenA) == some 0
  (h.wr FW_SLOTS.verified v.toNat).wr FW_SLOTS.erased e.toNat

/-- Try slots in order: the one that is valid. -/
def Hub.pickSlot (h : Hub) : List Bool → Option Bool
  | [] => none
  | b :: l => if h.slotValid b then some b else h.pickSlot l

/-- The order of R564. -/
def Hub.slotOrder (h : Hub) : List Bool := ([h.is FW_SLOTS.selected, !h.is FW_SLOTS.selected]).filter h.candidate

/-- Steps 10 and 11 (R349, R564, R381–R383). -/
def Hub.startImage (time : Nat) (h : Hub) : Hub :=
  let h := (h.wr START_TIME.image_time time).showVersions
  let order := h.slotOrder
  let pick := h.pickSlot order
  let tried := match pick with | some b => order.takeWhile (fun x => x != b) ++ [b] | none => order
  let h := h.each tried fun b => Hub.readErrors (slotBase b) (slotBase b + slotSize)
  let h := if pick.isNone ∧ order = [] ∨ pick = some (h.is FW_SLOTS.selected) then h
    else (h.wr SYS_STATUS.slot_fallback pick.isSome.toNat).latchMonitor 22
  match pick with
  | none => (h.wr SYS_STATUS.last_step 10).enterCamp 24 1
  | some b =>
    let h := if b then h.wr FW_SLOTS.valid_b 1 else h.wr FW_SLOTS.valid_a 1
    ((h.loadImage b).showInactive).wr SYS_STATUS.last_step 11

/-- The address of a row of the flash ring (R479). -/
def ringRow (n : Nat) : Nat := 0x081D0000 + 128 * n

/-- A row carries the mark of R479. -/
def Hub.rowMarked (h : Hub) (n : Nat) : Bool := h.memNat (ringRow n + 0x2A) 2 == 0xA55A

/-- A row is erased. -/
def Hub.rowErased (h : Hub) (n : Nat) : Bool := (h.memBytes (ringRow n) 128).all fun b => b == 0xFF

/-- LOG_RING.head at a start (R482): the slot after the last marked row that an erased row follows; without one it keeps
its reset value. -/
def Hub.findHead (h : Hub) : Hub :=
  match ((List.range 1024).filter fun n => h.rowMarked n && h.rowErased ((n + 1) % 1024)).getLast? with
  | some n => h.wr LOG_RING.head ((n + 1) % 1024)
  | none => h

/-- The start sequence from the release of power-on reset to the end of step 11 (R348). -/
def Hub.start_ (r : StartReadings) (h : Hub) : Hub :=
  let h := ({ h with power := .run }.readTrim r.trimGood).calibrate r.portCalFail r.quadCalFail
  let h := (h.selectCard.disableFailed.findHead).wr SYS_STATUS.last_step 9
  let h := { h with sun := { h.sun with clk := r.startTime.toNat * 30000 }, startClk := r.startTime.toNat * 30000 }
  if r.svcBootLow then h.enterCamp 24 2 else h.startImage r.imageTime.toNat

/-- LOCKOUT_RELEASE (R348): acts while power-on reset holds the hub. -/
def execLockoutRelease (r : StartReadings) (s : State) : Host.Outcome State Fault Refusal :=
  .next (if s.hub.power = .reset then applyHub (Hub.start_ r) s else s)

/-! ### Steps 12 and 13 -/

/-- Step 12 runs: the engines run and READY has not come. -/
def Hub.awaitsReady (h : Hub) : Bool :=
  !h.is SYS_STATUS.ready && !h.is SYS_STATUS.basecamp && !h.restarting &&
    (h.rd SYS_STATUS.last_step == 11 || h.rd SYS_STATUS.last_step == 12)

/-- STARTUP_SUN_TIMEOUT (R355): 120 ms after the end of step 9. -/
def execStartupSunTimeout (s : State) : Host.Outcome State Fault Refusal :=
  .next (onHub (fun h =>
    if h.awaitsReady && !h.is SUN_STATUS.locked && h.rd SUN_STATUS.active != 2 &&
        decide (h.startClk + 36000000 ≤ h.sun.clk) then
      let h := ((h.wr SYS_STATUS.sun_timeout 1).wr SYS_STATUS.last_step 12).latchMonitor 31
      (h.wr SUN_STATUS.active 2).wr SUN_FREQ.freq (h.rd SUN_FREE_FREQ.free_freq)
    else h) s)

/-- A port leaves DEAD_BATTERY at READY (R122). -/
def Hub.readyPort (p : Fin 16) (h : Hub) : Hub :=
  if !h.pis p PORT_CTRL.enable then
    ((h.pwr p PORT_STATUS.dead_batt 0).pwr p PORT_STATUS.run 0).setTc p tcOff
  else if h.prd p PORT_CTRL.role = 0 ∨ (h.rd PE_STATUS.halted).testBit p.val then
    ((((h.pwr p PORT_STATUS.dead_batt 0).pwr p PORT_STATUS.run 1).startRest p).setTc p tcRest).autoLeak p
  else (h.searchFrom p tcUnattachedSnk).lanesChanged p none none

/-- From READY a hub whose link runs listens for its rack (R533). -/
def Hub.listen (h : Hub) : Hub :=
  if h.is CONV_LINK.link_en && h.rd CONV_RACK.role == 0 then
    { h with rack := { h.rack with pollHeard := false, syncTick := none } }.wr CONV_RACK.role 1
  else h

/-- The tick of READY, from which the half-cycles of R69 count where no ACZ edge was accepted (R355). -/
def Hub.markReady (h : Hub) : Hub := { h with sun := { h.sun with readyTick := some h.sun.ticks } }

/-- READY (R348 step 13, R356): the Hamper takes its slots, the ports are released but under R123, and the Sundial no
longer steps (R59). -/
def Hub.reachReady (h : Hub) : Hub :=
  let h := (((h.wr SYS_STATUS.ready 1).wr SYS_STATUS.last_step 13).wr SUN_STATUS.pre_ready 0).markReady
  let h := h.wr START_TIME.ready_time (min 0xFFFF (h.sun.clk / 30000))
  let h := h.armSlots.listen.event 24 { ev := .readyReached }
  if h.is SYS_STATUS.card_default ∨ h.is SYS_STATUS.trim_bad then h else h.each h.presentPorts Hub.readyPort

/-- READY_REACHED (R348, R354, R355): LOCKED is declared, or step 12 has ended on its limit, or the source is FREE. -/
def execReadyReached (s : State) : Host.Outcome State Fault Refusal :=
  .next (onHub (fun h =>
    if h.awaitsReady && (h.is SUN_STATUS.locked || h.rd SUN_STATUS.active == 2) then h.reachReady else h) s)

/-- VSYS_LOW (R347). -/
def execVsysLow (s : State) : Host.Outcome State Fault Refusal :=
  .next (onHub (fun h =>
    if h.is SYS_STATUS.ready then
      ({ h with monitors := { h.monitors with vsysLow := true } } : Hub).latchMonitor 43
    else h) s)

/-! ### Card copies -/

/-- Flash from `a` to `b` is erased. -/
def Hub.eraseFlash (a b : Nat) (h : Hub) : Hub :=
  let out := fun (x : Nat) => !(decide (a ≤ x) && decide (x < b))
  { h with
    mem := h.mem.filter fun x => out x.1
    poison := h.poison.filter out
    upsets := h.upsets.filter fun x => out x.1
    fw := { h.fw with programmed := h.fw.programmed.filter out } }

/-- The copy was loaded at this start (R366). -/
def Hub.copyInUse (h : Hub) (copyB : Bool) : Bool :=
  !h.is SYS_STATUS.card_default && h.is SYS_STATUS.card_copy == copyB

/-- The copy has reached its erase limit (R367). -/
def Hub.copyWorn (h : Hub) (copyB : Bool) : Bool :=
  decide (20000 ≤ if copyB then h.rd CARD_WEAR.erases_b else h.rd CARD_WEAR.erases_a)

/-- Count an erase of a copy (R367). -/
def Hub.countErase (copyB : Bool) (h : Hub) : Hub :=
  let h := if copyB then h.wr CARD_WEAR.erases_b (h.rd CARD_WEAR.erases_b + 1)
    else h.wr CARD_WEAR.erases_a (h.rd CARD_WEAR.erases_a + 1)
  if h.copyWorn copyB then
    (if copyB then h.wr CARD_STATUS.worn_b 1 else h.wr CARD_STATUS.worn_a 1).wr SYS_STATUS.card_worn 1
  else h

/-- A write of erase_go (R366, R367): without effect while an erase is in progress. -/
def Hub.eraseCard (copyB : Bool) (h : Hub) : Hub :=
  if h.is CARD_STATUS.erase_busy then h
  else if h.copyInUse copyB then h.wr CARD_STATUS.erase_result 2
  else if h.copyWorn copyB then h.wr CARD_STATUS.erase_result 3
  else
    let h := ((h.countErase copyB).wr CARD_STATUS.erase_busy 1).wr CARD_STATUS.erase_result 0
    { h with fw := { h.fw with cardJob := .cardErase copyB } }

/-- CARD_ERASE_DONE (R367). -/
def execCardEraseDone (s : State) : Host.Outcome State Fault Refusal :=
  .next (onHub (fun h =>
    match h.fw.cardJob with
    | .cardErase b =>
      let h := h.eraseFlash (cardBase b) (cardBase b + 0x8000)
      let fw := { h.fw with cardJob := .none, erasedCardA := h.fw.erasedCardA || !b,
                            erasedCardB := h.fw.erasedCardB || b }
      ({ h with fw := fw }.wr CARD_STATUS.erase_busy 0).wr CARD_STATUS.erase_result 1
    | _ => h) s)

end Sys2Proof.Machine
end

