-- ==== Sys2Proof/Machine/Engines.lean ====
section
/-! DEFINITION. Supervisors and port engines as the hub sees them (chapter 10): watchdogs, takeover, restart, Flask mode,
halts, the scrubber. What an engine executes stands in Burjo.lean. -/

namespace Sys2Proof.Machine

open Sys2Proof.Reg

/-! ### Supervisors -/

abbrev supOff : Nat := 0
abbrev supRunning : Nat := 1
abbrev supHalting : Nat := 2
abbrev supHalted : Nat := 3
abbrev supRestarting : Nat := 4

/-- State of supervisor A (`false`) or B. -/
def Hub.sup (h : Hub) (b : Bool) : Nat := if b then h.rd ENG_STATUS.state_b else h.rd ENG_STATUS.state_a

/-- Set a supervisor's state. -/
def Hub.setSup (b : Bool) (s : Nat) (h : Hub) : Hub := if b then h.wr ENG_STATUS.state_b s else h.wr ENG_STATUS.state_a s

/-- The supervisor's engine. -/
def supEngine (b : Bool) : Fin 18 := if b then 17 else 16

/-- A supervisor is present (R1). -/
def Hub.hasSup (h : Hub) (b : Bool) : Bool := !b || h.part.large

/-- A supervisor's watchdog counts from its full period again (R384). -/
def Hub.feedSup (b : Bool) (h : Hub) : Hub :=
  { h with supKick := h.supKick.set (if b then 1 else 0) h.sun.clk (by cases b <;> decide) }

/-- The core clock at which a supervisor's watchdog fires without a kick (R384). -/
def Hub.supDeadline (h : Hub) (b : Bool) : Nat :=
  (if b then h.supKick[1] else h.supKick[0]) +
    (if b then h.rd SUP_WDT.period_b else h.rd SUP_WDT.period_a) * 3000000

/-- A supervisor's watchdog runs (R384). -/
def Hub.supWatched (h : Hub) (b : Bool) : Bool :=
  h.hasSup b && (h.sup b == supRunning || h.sup b == supRestarting) && h.power == .run

/-- A supervisor is down (R389). -/
def Hub.supDown (h : Hub) (b : Bool) : Bool := !h.hasSup b || h.sup b == supHalted || h.sup b == supRestarting

/-- A supervisor becomes primary and receives the takeover interrupt (R385, R389, R395). -/
def Hub.makePrimary (b : Bool) (h : Hub) : Hub :=
  if h.rd ENG_STATUS.primary = b.toNat then h
  else
    let h := (h.wr ENG_STATUS.primary b.toNat).event 24 { ev := .takeover }
    { h with takeover := h.takeover ||| (if b then 2 else 1) }

/-- Flask mode begins once every present supervisor is down (R390). -/
def Hub.checkFlask (h : Hub) : Hub :=
  if h.supDown false && h.supDown true && !h.is ENG_STATUS.flask then
    let h := ({ h with flaskClk := h.sun.clk }.wr ENG_STATUS.flask 1).wr ENG_STATUS.flask_restarted 0
    (h.latchMonitor 54).event 24 { ev := .flaskEntered }
  else h

/-- A supervisor reads HALTED: the other takes over if it runs and does not fail with it, else Flask mode may begin (R385,
R390, R395). -/
def Hub.supStopped (b : Bool) (cause : Nat) (both : Bool) (h : Hub) : Hub :=
  let h := (h.setSup b supHalted).event (supEngine b).val { ev := .engineHalted, data := cause }
  let h := if h.sup (!b) = supRunning ∧ h.hasSup (!b) ∧ !both then h.makePrimary (!b) else h
  h.checkFlask

/-- A supervisor halts, its watchdog's source latching (R385, R447). -/
def Hub.failSup (b both : Bool) (h : Hub) : Hub :=
  ((h.setSup b supHalted).latchMonitor (if b then 24 else 23)).supStopped b 2 both

/-- Flask mode ends (R393): held ports leave REST, and the Hamper serves the queue. -/
def Hub.endFlask (h : Hub) : Hub :=
  if h.is ENG_STATUS.flask then
    let h := ((h.wr ENG_STATUS.flask 0).wr ENG_STATUS.flask_expired 0).wr ENG_STATUS.flask_restarted 0
    ({ h with freed := true } : Hub).each h.presentPorts Hub.tryLeaveRest
  else h

/-- A supervisor enters RUNNING (R388, R389, R393). -/
def Hub.supRuns (b : Bool) (h : Hub) : Hub :=
  let h := h.setSup b supRunning
  let h := if h.supDown (!b) then h.makePrimary b else h
  h.endFlask

/-- Restart a HALTED supervisor (R388): A at the boot ROM restart entry, B at SUPB_ENTRY. -/
def Hub.restartSup (b : Bool) (h : Hub) : Hub :=
  let h := (h.setSup b supRestarting).feedSup b
  let h := if b then h.wr ENG_CTRL.run_b 1 else h.wr ENG_CTRL.run_a 1
  { h with resets := h.resets ++ [(supEngine b, if b then h.word 0x9004 else 0x100)] }

/-- A kick of a supervisor's watchdog (R384, R388): the first one after a restart ends RESTARTING. -/
def Hub.kickSup (b : Bool) (h : Hub) : Hub :=
  let h := h.feedSup b
  if h.sup b = supRestarting then h.supRuns b else h

/-- run_a or run_b takes a new value (R383, R395): a fall halts, a rise releases supervisor B from OFF. -/
def Hub.writeRun (b on : Bool) (h : Hub) : Hub :=
  let h := if b then h.wr ENG_CTRL.run_b on.toNat else h.wr ENG_CTRL.run_a on.toNat
  if !on && (h.sup b == supRunning || h.sup b == supRestarting) then h.setSup b supHalting
  else if on && b && h.sup true == supOff && h.part.large then
    let h := (h.setSup true supRunning).feedSup true
    { h with resets := h.resets ++ [(17, h.word 0x9004)] }
  else h

/-- SUPERVISOR_WATCHDOG (R384, R385, R390): no kick has come for the period; the supervisor halts, and its source latches. Where
both watchdogs fire in the same clock, the primary does not change. -/
def execSupervisorWatchdog (b : Bool) (s : State) : Host.Outcome State Fault Refusal :=
  .next (onHub (fun h =>
    if h.supWatched b && decide (h.supDeadline b ≤ h.sun.clk) then
      h.failSup b (h.supWatched (!b) && h.supDeadline (!b) == h.supDeadline b)
    else h) s)

/-- SUPERVISOR_HALTED (R395): the issued work has completed. -/
def execSupervisorHalted (b : Bool) (s : State) : Host.Outcome State Fault Refusal :=
  .next (onHub (fun h => if h.hasSup b && h.sup b == supHalting then h.supStopped b 1 false else h) s)

/-- FLASK_RESTART (R392): 10 ms after the entry to Flask mode. -/
def execFlaskRestart (s : State) : Host.Outcome State Fault Refusal :=
  .next (onHub (fun h =>
    if h.is ENG_STATUS.flask && h.is ENG_CTRL.flask_restart && !h.is ENG_STATUS.flask_restarted &&
        h.sup false == supHalted && decide (h.flaskClk + 3000000 ≤ h.sun.clk) then
      (h.wr ENG_STATUS.flask_restarted 1).restartSup false
    else h) s)

/-- FLASK_EXPIRED (R394): flask_limit seconds after the entry to Flask mode. -/
def execFlaskExpired (s : State) : Host.Outcome State Fault Refusal :=
  .next (onHub (fun h =>
    if h.is ENG_STATUS.flask && !h.is ENG_STATUS.flask_expired &&
        decide (h.flaskClk + h.rd FLASK_CFG.flask_limit * 300000000 ≤ h.sun.clk) then
      let h := h.wr ENG_STATUS.flask_expired 1
      let due := h.presentPorts.filter fun p => h.tc p != tcOff && h.tc p != tcDischarge && h.tc p != tcRest
      (h.each due Hub.safeState).event 24 { ev := .flaskExpired }
    else h) s)

/-! ### Port engines -/

/-- The cause of a port engine's last halt (PE_CAUSE0, PE_CAUSE1). -/
def Hub.setPeCause (p : Fin 16) (c : Nat) (h : Hub) : Hub :=
  let b : Bits := ⟨0x900A + p.val / 8, p.val % 8 * 4, 4⟩
  h.setWord b.key (b.put c (h.word b.key))

/-- A port engine is halted. -/
def Hub.peHalted (h : Hub) (p : Fin 16) : Bool := (h.rd PE_STATUS.halted).testBit p.val

/-- A port engine halts (R54, R396, R397): its port goes to safe state, and its entries are rolled back with it. All of it is one
command, so PE_STATUS.halting never reads 1 (DESIGN CHOICE, log entry 89). -/
def Hub.haltPe (p : Fin 16) (cause : Nat) (h : Hub) : Hub :=
  if h.peHalted p then h
  else
    let h := h.wr PE_STATUS.halted (h.rd PE_STATUS.halted ||| 2 ^ p.val)
    ((h.setPeCause p cause).portEvent p .engineHalted cause).safeNow p

/-- A port engine halts for its watchdog or a trap storm (R397): source 25 latches. -/
def Hub.failPe (p : Fin 16) (cause : Nat) (h : Hub) : Hub :=
  if h.peHalted p then h else (h.latchMonitor 25).haltPe p cause

/-- A port engine's watchdog counts anew (R397). -/
def Hub.feedPe (p : Fin 16) (h : Hub) : Hub := { h with peKick := h.peKick.set p h.sun.clk }

/-- A port engine is released at 0x0000_0000 (R383, R396); a port that rested for it may go on. -/
def Hub.runPe (p : Fin 16) (h : Hub) : Hub :=
  if h.peHalted p then
    let h := h.wr PE_STATUS.halted (h.rd PE_STATUS.halted &&& (0xFFFF - 2 ^ p.val))
    { h with resets := h.resets ++ [((⟨p.val, by omega⟩ : Fin 18), (0 : Word))] }.feedPe p |>.tryLeaveRest p
  else h

/-- PE_RUN takes a new value (R383, R396). -/
def Hub.writePeRun (v : Nat) (h : Hub) : Hub :=
  let old := h.rd PE_RUN.run
  let h := h.wr PE_RUN.run v
  let h := h.each (h.presentPorts.filter fun p => old.testBit p.val && !v.testBit p.val) fun p => Hub.haltPe p 1
  h.each (h.presentPorts.filter fun p => !old.testBit p.val && v.testBit p.val) Hub.runPe

/-- PE_WATCHDOG (R397): no kick has come for pe_wdt milliseconds. -/
def execPeWatchdog (p : Fin 16) (s : State) : Host.Outcome State Fault Refusal :=
  .next (onPort p (fun h =>
    if h.peKick[p] + h.rd PE_CFG.pe_wdt * 300000 ≤ h.sun.clk then h.failPe p 2 else h) s)

/-! ### Ledger errors and the scrubber -/

/-- An uncorrectable error of a ledger word (R189): the entry's port goes to safe state, an AUX entry is lost, and the
totals are rebuilt. -/
def Hub.ledgerError (a : Nat) (h : Hub) : Hub :=
  let o := a - 0x22000000
  let h :=
    if hi : o / 16 < 64 then
      let i : Fin 64 := ⟨o / 16, hi⟩
      let e := h.es[i]
      if e.st = .free then h
      else if e.kind = .aux then
        let h := (h.setEntry i Entry.free)
        let lost := fun (m : Master) (h : Hub) => (h.mwr m AUX_RESULT.aux_lost 1).mwr m AUX_RESULT.lost_entry i.val
        { lost .supB (lost .supA h) with freed := true }
      else
        let p := e.port
        (h.safeState p).releaseEntries p false
    else h
  h.rebuildTotals

/-- Read a word of memory through the ECC logic; an error of the ledger is the Hamper's too. -/
def Hub.readWord (a id access : Nat) (h : Hub) : Hub × Bool :=
  let r := h.eccRead a id access
  let fresh := 0x22000000 ≤ a && a < 0x22004000 && r.2 && !h.poisoned a
  (if fresh then r.1.ledgerError (word64 a) else r.1, r.2)

/-- The word that the scrubber visits after one (R407). -/
def Hub.scrubNext (h : Hub) (a : Nat) : Nat :=
  let n := a + 8
  if n = 0x20040000 then 0x21000000
  else if n = 0x21000000 + 0x8000 * h.part.ports then 0x22000000
  else if n = 0x22004000 then 0x23000000
  else if n = 0x23002000 then 0x08000000
  else if n = 0x08200000 then 0x20000000
  else n

/-- SCRUB_READ (R407, R402, R403): captured with master 24 and access type scan. -/
def execScrubRead (s : State) : Host.Outcome State Fault Refusal :=
  .next (onHub (fun h =>
    if h.is SCRUB_CTRL.enable then
      let a := h.rd SCRUB_POS.next
      (h.wr SCRUB_POS.next (h.scrubNext a)).readWord a 24 5 |>.1
    else h) s)

/-- Write an SRAM word to zero, with poison clear (R404). -/
def Hub.zeroWord (a : Nat) (h : Hub) : Hub :=
  let h := h.setBytes a (List.replicate 8 0)
  { h with poison := h.poison.filter (fun w => w != a), upsets := h.upsets.filter fun u => u.1 != a }

/-- The address of a legal MEM_ZERO write: SRAM but the ledger, the hub-saved area, and a running engine's code. -/
def Hub.mayZero (h : Hub) (a : Nat) : Bool :=
  (0x20000000 ≤ a && a < 0x20040000) ||
    (if hp : (a - 0x21000000) / 0x8000 < 16 then
      let p : Fin 16 := ⟨(a - 0x21000000) / 0x8000, hp⟩
      0x21000000 ≤ a && h.present p && (decide (0x4000 ≤ a % 0x8000) || h.peHalted p)
    else false) ||
    (0x23001040 ≤ a && a < 0x23002000)

end Sys2Proof.Machine
end

