-- ==== Sys2Proof/Machine/FaultLog.lean ====
section
/-! DEFINITION. Fault Collector and Logbook (chapter 12): causes, clears, forced latches, FAULTn, pops, the flash ring,
and the device monitors. -/

namespace Sys2Proof.Machine

open Sys2Proof.Reg

/-! ### Causes and clears -/

/-- The cause of a source is held (R454, last column). -/
def Hub.causeHeld (h : Hub) (n : Nat) : Bool :=
  if hp : n < 16 then h.word (portKey ⟨n, hp⟩ 0x40) != 0
  else if hq : 49 ≤ n ∧ n ≤ 52 then h.qrd ⟨n - 49, by omega⟩ HK_STATUS.ref_bad == 1
  else
    match n with
    | 21 => h.is SYS_STATUS.card_default
    | 23 => h.rd ENG_STATUS.state_a == supHalted
    | 24 => h.rd ENG_STATUS.state_b == supHalted
    | 30 => freeEntries h.es == 0
    | 31 => !h.is SUN_STATUS.locked && h.sun.cardSource != 2
    | 32 => h.is SUN_STATUS.mains_lost
    | 34 => h.is CONV_STATUS.bus_stuck
    | 35 => decide (3 ≤ h.rd CONV_RACK.missed)
    | 36 => h.rd CONV_RACK.role != 2 && h.rd CONV_RACK.role != 3 && h.rd CONV_RACK.role != 5
    | 41 => h.monitors.vhubOver
    | 42 => h.monitors.vhubUnder
    | 43 => h.monitors.vsysLow
    | 44 => h.monitors.buckFault
    | 45 => h.monitors.dieWarm
    | 46 => h.monitors.dieHot
    | 47 => h.monitors.clockBad
    | 48 => !h.vconnGood
    | 54 => h.is ENG_STATUS.flask
    | 55 => h.rd BIVOUAC_STATUS.phase != 0
    | 56 => h.is SYS_STATUS.trim_bad
    | 57 => h.monitors.debugHeld
    | _ => false

/-- The port that a source is the aggregate of. -/
def sourcePort (n : Nat) : Option (Fin 16) := if hp : n < 16 then some ⟨n, hp⟩ else none

/-- A write of 1 to one latched source's bit (R462, R468, R628). -/
def Hub.clearSource (n : Nat) (h : Hub) : Hub :=
  if h.causeHeld n then
    (((h.stamp 24).bump CLEAR_REFUSED.count).wr CLEAR_REFUSED.last_source n).log
      { ev := .clearRefused, port := sourcePort n, source := some n }
  else
    let h := h.clearPairBit 0x3000 n
    let h := { h with hubSafe := h.hubSafe &&& ~~~BitVec.ofNat 64 (2 ^ n)
                      portSafe := h.portSafe &&& ~~~BitVec.ofNat 16 (if n < 16 then 2 ^ n else 0) }
    let h := if h.is CAP_INFO.valid && h.rd CAP_INFO.source == n then h.wr CAP_INFO.valid 0 else h
    h.event 24 { ev := .faultCleared, port := sourcePort n, source := some n }

/-- The sources that the bits of a LO or HI word name, ascending. -/
def sourcesOf (hi : Bool) (v : Word) : List Nat :=
  ((List.range 32).filter v.toNat.testBit).map fun b => b + 32 * hi.toNat

/-- A write of FAULT_STATUS (R462); ports that nothing holds any longer leave REST (R458, R459). -/
def Hub.clearStatus (hi : Bool) (v : Word) (h : Hub) : Hub :=
  (h.each ((sourcesOf hi v).filter h.latched) Hub.clearSource).each h.presentPorts Hub.tryLeaveRest

/-- A write of FAULT_NEW (R463). -/
def Hub.clearNew (hi : Bool) (v : Word) (h : Hub) : Hub :=
  let k := 0x3002 + hi.toNat
  h.setWord k (h.word k &&& ~~~v)

/-- Forced latches (R464, R469), ascending. -/
def Hub.forceSources (m : Master) (hi : Bool) (v : Word) (h : Hub) : Hub :=
  h.each (sourcesOf hi v) fun n h =>
    (h.stamp 24).latchShared n { master := masterId m, kind := 6, addr := if hi then 0x40003014 else 0x40003010 } 0x8000

/-! ### Severities -/

/-- A code is legal for a source (R455, R460). -/
def Part.sevLegal (part : Part) (n code : Nat) : Bool :=
  part.absentSource n ||
    (if n < 16 then code != 0 else if n = 41 ∨ n = 44 ∨ n = 46 ∨ n = 47 then code == 3 else true)

/-- A value is legal for FAULT_SEVk. -/
def Part.sevWordLegal (part : Part) (k : Nat) (v : Word) : Bool :=
  (List.range 16).all fun j => part.sevLegal (16 * k + j) (v.toNat / 4 ^ j % 4)

/-- A write of FAULT_SEVk (R455, R457). -/
def Hub.writeSev (k : Nat) (v : Word) (h : Hub) : Hub :=
  h.setWord (0x3008 + k) (v &&& maskWord (h.part.sevMask k))

/-- The 64 sources. -/
def allSources : List Nat := List.range 64

/-- FAULTn is driven low (R470, R471). -/
def Hub.faultPinLow (h : Hub) : Bool :=
  h.up && (h.is SYS_STATUS.basecamp ||
    (decide (9 ≤ h.rd SYS_STATUS.last_step) &&
      allSources.any fun n => h.latched n && decide (h.rd FAULT_PIN.fault_pin_level ≤ h.severity n)))

/-- Interrupt line 0 (R463). -/
def Hub.faultIrq (h : Hub) : Bool := allSources.any fun n => h.pairBit 0x3002 n && decide (1 ≤ h.severity n)

/-! ### Logbook -/

/-- A pop of the ring by a master (R477). -/
def Hub.popLog (m : Master) (h : Hub) : Hub :=
  match h.logRing with
  | [] => ((h.mwr m LOG_POP.valid 0).mwr m LOG_POP.cont 0).mwr m LOG_POP.left 0
  | e :: l =>
    let h := { h with logRing := l }
    let h := ((h.mwr m (LOG_ENTRY.word 0) e.w0.toNat).mwr m (LOG_ENTRY.word 1) e.w1.toNat)
    let h := (h.mwr m (LOG_ENTRY.word 2) e.w2.toNat).mwr m (LOG_ENTRY.word 3) e.w3.toNat
    ((h.mwr m LOG_POP.valid 1).mwr m LOG_POP.cont e.cont.toNat).mwr m LOG_POP.left l.length

/-- A supervisor's write of LOG_WRITE (R478). -/
def Hub.writeLog (m : Master) (v : Word) (h : Hub) : Hub :=
  h.event (masterRequester m) { ev := .firmware (v.toNat / 0x10000 % 32), data := v.toNat % 0x10000 }

/-! ### The flash ring -/

/-- The 16 bytes of a Logbook entry. -/
def LogEntry.bytes (e : LogEntry) : List Byte :=
  leBytes 4 e.w0.toNat ++ leBytes 4 e.w1.toNat ++ leBytes 4 e.w2.toNat ++ leBytes 4 e.w3.toNat

/-- The 128 bytes of a row (R479). -/
def Persist.row (x : Persist) : List Byte :=
  x.entry.bytes ++ (match x.cont with | some c => c.bytes | none => List.replicate 16 0xFF) ++ leBytes 4 x.lo.toNat ++
    leBytes 4 x.hi.toNat ++ leBytes 2 x.epoch.toNat ++ leBytes 2 0xA55A ++ List.replicate 84 0xFF

/-- Program erased flash: the words hold their bytes without errors. -/
def Hub.programFlash (a : Nat) (bytes : List Byte) (h : Hub) : Hub :=
  let words := (List.range ((bytes.length + 7) / 8)).map fun i => word64 a + 8 * i
  let h := h.setBytes a bytes
  { h with upsets := h.upsets.filter fun u => !words.contains u.1
           poison := h.poison.filter fun w => !words.contains w
           fw := { h.fw with programmed := words ++ h.fw.programmed.filter fun w => !words.contains w } }

/-- Write one event to the ring (R479, R480): a sector that holds data is erased before its first row. -/
def Hub.writeRing (x : Persist) (h : Hub) : Hub :=
  let n := h.rd LOG_RING.head
  let h := if n % 128 = 0 then h.eraseFlash (ringRow n) (ringRow n + 0x4000) else h
  (h.programFlash (ringRow n) x.row).wr LOG_RING.head ((n + 1) % 1024)

/-- FLASH_RING_WRITE (R479, R480). -/
def execFlashRingWrite (s : State) : Host.Outcome State Fault Refusal :=
  .next (onHub (fun h =>
    match h.flashQueue with
    | [] => h
    | x :: l => ({ h with flashQueue := l } : Hub).writeRing x) s)

/-! ### Device monitors -/

/-- A device monitor reports its condition (R454). -/
def monitorLatch (src : Nat) (f : Monitors → Monitors) (s : State) : State :=
  onHub (fun h => ({ h with monitors := f h.monitors } : Hub).latchMonitor src) s

/-- VHUB_OVER (R454). -/
def execVhubOver (s : State) : Host.Outcome State Fault Refusal :=
  .next (monitorLatch 41 (fun x => { x with vhubOver := true }) s)

/-- VHUB_UNDER (R454). -/
def execVhubUnder (s : State) : Host.Outcome State Fault Refusal :=
  .next (monitorLatch 42 (fun x => { x with vhubUnder := true }) s)

/-- DIE_TEMP_WARNING (R454). -/
def execDieTempWarning (s : State) : Host.Outcome State Fault Refusal :=
  .next (monitorLatch 45 (fun x => { x with dieWarm := true }) s)

/-- DIE_TEMP_SHUTDOWN (R454). -/
def execDieTempShutdown (s : State) : Host.Outcome State Fault Refusal :=
  .next (monitorLatch 46 (fun x => { x with dieWarm := true, dieHot := true }) s)

/-- CLOCK_FAULT (R351, R454). -/
def execClockFault (s : State) : Host.Outcome State Fault Refusal :=
  .next (monitorLatch 47 (fun x => { x with clockBad := true }) s)

/-- BUCK_FAULT (R454). -/
def execBuckFault (s : State) : Host.Outcome State Fault Refusal :=
  .next (monitorLatch 44 (fun x => { x with buckFault := true }) s)

/-- DEBUG_ACCESS (R454). -/
def execDebugAccess (s : State) : Host.Outcome State Fault Refusal :=
  .next (monitorLatch 57 (fun x => { x with debugHeld := true }) s)

end Sys2Proof.Machine
end

