-- ==== Sys2Proof/Machine/Check.lean ====
section
/-! DEFINITION. The Check Unit (chapter 13): passes of its two channels. -/

namespace Sys2Proof.Machine

open Sys2Proof.Reg

/-- The channel's pass. -/
def Hub.chan (h : Hub) (c : Fin 2) : Chan := h.chans[c]

/-- Change the channel's pass. -/
def Hub.setChan (c : Fin 2) (x : Chan) (h : Hub) : Hub := { h with chans := h.chans.set c x }

/-- The CRC that the channel's registers set (R484, R485). -/
def Hub.crcOf (h : Hub) (c : Fin 2) : CrcCfg :=
  { width := h.rd (CHK_CFG.width c), poly := h.rd (CHK_POLY.poly c), init := h.rd (CHK_INIT.init_ c),
    refin := h.is (CHK_CFG.refin c), refout := h.is (CHK_CFG.refout c), xorout := h.rd (CHK_XOROUT.xorout c) }

/-- A scan is in progress. -/
def Hub.scanning (h : Hub) (c : Fin 2) : Bool := h.is (CHK_STATUS.busy c)

/-- The hub holds the channel (R497). The image and card checks of a start and of a warm restart begin and end within one
command. -/
def Hub.holdsChan (h : Hub) (c : Fin 2) : Bool :=
  h.is SYS_STATUS.basecamp || (c == 1 && h.is DENOC_STATUS.session)

/-- CHK_RESULT and CHK_DONE_LEN show the pass (R485). -/
def Hub.showPass (c : Fin 2) (h : Hub) : Hub :=
  (h.wr (CHK_RESULT.result c) (crcResult (h.crcOf c) (h.chan c).crc)).wr (CHK_DONE_LEN.done_len c) (h.chan c).done

/-- The counter of a record's byte (R491, R492). -/
def counterOf (size v : Nat) : Nat := match size with | 0 => v | 1 => v % 16 | _ => v / 16

/-- A wrong counter (R492, R494): repeat or skip, counted, its record noted, source 40 latched. -/
def Hub.aliveError (c : Fin 2) (same : Bool) (record addr : Nat) (h : Hub) : Hub :=
  let h := h.wr (if same then CHK_STATUS.repeat_ c else CHK_STATUS.skip c) 1
  let h := if h.rd (CHK_ALIVE_ERR.count c) = 0 then h.wr (CHK_ALIVE_ERR.first c) record else h
  let h := h.bump (CHK_ALIVE_ERR.count c)
  if h.is (CHK_CTRL.latch_en c) then
    (h.stamp 23).latchShared 40 { master := 18 + c.val, kind := 5, addr := maskWord addr } 0
  else h

/-- Check the counter if the byte at this place of the pass holds one (R491, R492). -/
def Hub.checkAlive (c : Fin 2) (b : Byte) (addr : Nat) (h : Hub) : Hub :=
  let n := (h.chan c).done
  let stride := h.rd (CHK_ALIVE.stride c)
  if h.is (CHK_CTRL.alive_en c) && n % stride == h.rd (CHK_ALIVE.offset c) then
    let size := h.rd (CHK_ALIVE.alive_size c)
    let v := counterOf size b.toNat
    let good := match (h.chan c).ref with
      | none => true
      | some r => v == (r + 1) % (if size = 0 then 256 else 16)
    let same := (h.chan c).ref == some v
    let h := if good then h else h.aliveError c same (n / stride) addr
    h.setChan c { h.chan c with ref := some v }
  else h

/-- The channel processes one byte, read at an address, or 0 in FEED mode. -/
def Hub.passByte (c : Fin 2) (b : Byte) (addr : Nat) (h : Hub) : Hub :=
  let h := h.checkAlive c b addr
  let x := h.chan c
  h.setChan c { x with crc := crcByte (h.crcOf c) x.crc b, done := x.done + 1 }

/-- End a pass (R493, R494): done, the comparison of a whole result, CHECK_DONE. -/
def Hub.endPass (c : Fin 2) (feed : Bool) (h : Hub) : Hub :=
  let h := h.showPass c
  let h := ((h.wr (CHK_STATUS.busy c) 0).wr (CHK_STATUS.draining c) 0).wr (CHK_STATUS.done c) 1
  let h := h.setChan c { h.chan c with feedOpen := false }
  let differs := h.is (CHK_CTRL.cmp_en c) && !h.is (CHK_STATUS.partial_ c) &&
    h.rd (CHK_RESULT.result c) != h.rd (CHK_EXPECT.expect c) % 2 ^ h.rd (CHK_CFG.width c)
  let h := if differs then h.wr (CHK_STATUS.mismatch c) 1 else h
  let h := h.event 23 { ev := .checkDone,
                        data := c.val * 0x8000 + (h.word (CHK_STATUS.done c).bits.key).toNat / 4 % 64 }
  if differs && h.is (CHK_CTRL.latch_en c) then
    h.latchShared 40 { master := 18 + c.val, kind := 5, addr := if feed then 0 else h.word (CHK_START.start c).bits.key } 0
  else h

/-! ### Scans -/

/-- The first byte after the range. -/
def Hub.scanStop (h : Hub) (c : Fin 2) : Nat := h.rd (CHK_START.start c) + h.rd (CHK_LEN.len c)

/-- The next byte to process. -/
def Hub.scanAt (h : Hub) (c : Fin 2) : Nat := h.rd (CHK_START.start c) + (h.chan c).done

/-- 64-bit words still to be read. -/
def Hub.wordsLeft (h : Hub) (c : Fin 2) : Nat := (h.scanStop c + 7) / 8 - h.scanAt c / 8

/-- The channel reads one 64-bit word and processes the bytes of its range (R489), or finds it poisoned (R490). -/
def Hub.scanWord (c : Fin 2) (h : Hub) : Hub × Bool :=
  let a := h.scanAt c
  let r := h.readWord a (18 + c.val) 5
  if r.2 then (r.1, true)
  else
    let n := min (8 - a % 8) (h.scanStop c - a)
    (r.1.each (List.range n) fun i h => h.passByte c (h.memByte (a + i)) (a + i), false)

/-- Read some words, stopping at a poisoned one. -/
def Hub.scanWords (c : Fin 2) : Nat → Hub → Hub × Bool
  | 0, h => (h, false)
  | n + 1, h =>
    let r := h.scanWord c
    if r.2 then r else r.1.scanWords c n

/-- Words that a scan reads before the first bad one. -/
def Hub.goodWords (h : Hub) (a : Nat) : Nat → Nat
  | 0 => 0
  | n + 1 => if h.poisoned a || h.uncorrectable (word64 a) (word64 a + 8) then 0 else h.goodWords (a + 8) n + 1

/-- What a scan in progress has reached when software looks at it is a free value (log entry 14). -/
def Hub.scanOn (c : Fin 2) (h : Hub) : Hub :=
  if h.scanning c then
    let (w, h) := h.takeFree
    let n := h.goodWords (h.scanAt c) (h.wordsLeft c)
    (h.scanWords c (w.toNat % (n + 1))).1.showPass c
  else h

/-- A scan ends: after its last word, or at a poisoned one (R490). -/
def endScan (c : Fin 2) (r : Hub × Bool) : Hub :=
  if r.2 then
    let h := (r.1.wr (CHK_STATUS.partial_ c) 1).wr (CHK_STATUS.poison c) 1
    (h.wr (CHK_ERR_ADDR.addr c) (word64 (h.scanAt c))).endPass c false
  else r.1.endPass c false

/-- CHECK_DONE (R486, R490, R493): the scan reads the words that are left. -/
def execCheckDone (c : Fin 2) (s : State) : Host.Outcome State Fault Refusal :=
  .next (onHub (fun h => if h.scanning c then endScan c (h.scanWords c (h.wordsLeft c)) else h) s)

/-- Enable is cleared during a scan (R495): the pass ends after the word being read, which is a free one. -/
def Hub.drainScan (c : Fin 2) (h : Hub) : Hub :=
  let (w, h) := h.takeFree
  let h := h.wr (CHK_STATUS.partial_ c) 1
  endScan c (h.scanWords c (w.toNat % h.wordsLeft c + 1))

/-- The range of a scan lies in one region (R488). -/
def Hub.scanLegal (h : Hub) (start len : Nat) : Bool :=
  let inside := fun (a n : Nat) => decide (a ≤ start) && decide (start + len ≤ a + n)
  decide (1 ≤ len) &&
    (inside 0 0x10000 || inside 0x08000000 0x200000 || inside 0x20000000 0x40000 ||
      inside 0x21000000 (0x8000 * h.part.ports) || inside 0x22000000 0x4000 || inside 0x23000000 0x2000)

/-! ### Writes of the channel's registers -/

/-- A write of go (R486, R487): a new pass in the mode that stands. -/
def Hub.goCheck (c : Fin 2) (h : Hub) : Hub :=
  let feed := h.is (CHK_CTRL.mode c)
  let h := h.setChan c ⟨h.rd (CHK_INIT.init_ c) % 2 ^ h.rd (CHK_CFG.width c), 0, feed, none⟩
  let h := ((h.wr (CHK_STATUS.partial_ c) 0).wr (CHK_STATUS.done c) 0).setWord (CHK_ALIVE_ERR.count c).bits.key 0
  (h.wr (CHK_STATUS.busy c) (!feed).toNat).showPass c

/-- A write of CHK_FEED or CHK_FEED_B in FEED mode: the open pass takes the bytes. -/
def Hub.feedCheck (c : Fin 2) (bs : List Byte) (h : Hub) : Hub :=
  if (h.chan c).feedOpen then (h.each bs fun b => Hub.passByte c b 0).showPass c else h

end Sys2Proof.Machine
end

