-- ==== Sys2Proof/Machine/Rack.lean ====
section
/-! DEFINITION. The Convoy link (chapter 14) and the rack (chapter 15): frames sent and received, membership, budget
rounds, the lead. -/

namespace Sys2Proof.Machine

open Sys2Proof.Reg

abbrev roleOff : Nat := 0
abbrev roleListening : Nat := 1
abbrev roleMember : Nat := 2
abbrev roleLeader : Nat := 3
abbrev roleRefused : Nat := 4
abbrev roleLost : Nat := 5

/-- The hub's role in the rack. -/
def Hub.role (h : Hub) : Nat := h.rd CONV_RACK.role

/-- The hub's own hub field. -/
def Hub.ownField (h : Hub) : Fin 16 := ⟨h.hubField, by unfold Hub.hubField; omega⟩

/-- The hub's serial. -/
def Hub.serial (h : Hub) : BitVec 24 := BitVec.ofNat 24 (h.rd CONV_SERIAL.serial)

/-- Change the rack's hidden state. -/
def Hub.mapRack (f : RackH → RackH) (h : Hub) : Hub := { h with rack := f h.rack }

/-! ### The link -/

/-- The frame in front is done with; a firmware message shows how (CONV_TXCTRL.result). -/
def Hub.frameDone (result : Nat) (h : Hub) : Hub :=
  let fw := (h.rack.queue.head?.map QFrame.kind) == some .firmware
  let h := h.mapRack fun r => { r with queue := r.queue.tail, retries := 0, losses := 0 }
  if fw then (h.wr CONV_TXCTRL.busy 0).wr CONV_TXCTRL.result result else h

/-- Arbitration is lost (R525, R526, R528): the frame is retried, or abandoned at the 16th loss. -/
def Hub.frameLost (h : Hub) : Hub :=
  let h := h.bump CONV_CNT2.arb_losses
  if 15 ≤ h.rack.losses then (h.bump CONV_CNT2.dropped).frameDone 3
  else h.mapRack fun r => { r with losses := r.losses + 1 }

/-- CONV_ARB takes a loss. -/
def Hub.noteArb (stop : Bool) (byte bit : Nat) (h : Hub) : Hub :=
  ((h.wr CONV_ARB.stop stop.toNat).wr CONV_ARB.byte byte).wr CONV_ARB.bit bit

/-- The bytes of a frame on the bus (R522), with the PEC of R512. -/
def QFrame.wire (f : QFrame) : List Byte :=
  let bytes := f.dest :: f.type_ :: BitVec.ofNat 8 f.payload.length :: f.payload
  bytes ++ [pec bytes]

/-- How the frame in front ends (R524, R525, R528). -/
def Hub.endFrame (result : FrameEnd) (h : Hub) : Hub :=
  match h.rack.queue with
  | [] => h
  | f :: _ =>
    match result with
    | .delivered => ((h.bump CONV_CNT1.tx_frames).mapRack fun r => { r with wire := f.wire }).frameDone 1
    | .nacked =>
      let h := h.wr CONV_STATUS.nack 1
      if 3 ≤ h.rack.retries then h.frameDone 2 else h.mapRack fun r => { r with retries := r.retries + 1 }
    | .lost byte bit =>
      (if byte = 0 then h else (h.wr CONV_STATUS.arb_lost 1).noteArb false byte.toNat bit.val).frameLost
    | .lostAtStop => ((h.wr CONV_STATUS.arb_stop_loss 1).noteArb true (f.payload.length + 4) 0).frameLost

/-- The frame in front has been sent before. -/
def Hub.backingOff (h : Hub) : Bool := decide (0 < h.rack.retries) || decide (0 < h.rack.losses)

/-- CONVOY_FRAME_START (R524, R525, R528). -/
def execConvoyFrameStart (result : FrameEnd) (s : State) : Host.Outcome State Fault Refusal :=
  .next (onHub (fun h => if h.is CONV_LINK.link_en && !h.backingOff then h.endFrame result else h) s)

/-- CONVOY_BACKOFF_EXPIRY (R526). -/
def execConvoyBackoffExpiry (result : FrameEnd) (s : State) : Host.Outcome State Fault Refusal :=
  .next (onHub (fun h => if h.is CONV_LINK.link_en && h.backingOff then h.endFrame result else h) s)

/-- CONVOY_FRAME_DISCARD (R523). -/
def execConvoyFrameDiscard (cause : DiscardCause) (s : State) : Host.Outcome State Fault Refusal :=
  .next (onHub (fun h =>
    if h.is CONV_LINK.link_en then
      let h := h.bump CONV_CNT2.rx_discarded
      match cause with
      | .cutShort => h
      | _ => h.wr CONV_STATUS.pec_err 1
    else h) s)

/-- An attempt to clear the bus (R529, R530): bus_cleared, or bus_stuck and source 34. -/
def Hub.clearBus (released : Bool) (h : Hub) : Hub :=
  let h := h.bump CONV_CNT2.clears
  if released then (h.wr CONV_STATUS.bus_cleared 1).wr CONV_STATUS.bus_stuck 0
  else ((h.wr CONV_STATUS.bus_stuck 1).stamp 20).latchShared 34 (h.noAccess 34) 0

/-- CONVOY_BUS_CLEAR (R529, R530). -/
def execConvoyBusClear (released : Bool) (s : State) : Host.Outcome State Fault Refusal :=
  .next (onHub (fun h => if h.is CONV_LINK.link_en then h.clearBus released else h) s)

/-- BUS_CLEAR_RETRY (R530). -/
def execBusClearRetry (released : Bool) (s : State) : Host.Outcome State Fault Refusal :=
  .next (onHub (fun h => if h.is CONV_STATUS.bus_stuck then h.clearBus released else h) s)

/-- A timeout of a bus (R515, R516): its status bit, and source 37 or 34. -/
def Hub.busTimeout (bus : Bus) (data : Bool) (h : Hub) : Hub :=
  match bus with
  | .hostBus => (h.wr (if data then HOST_STATUS.timeout_data else HOST_STATUS.timeout_clk) 1).latchMonitor 37
  | .convoyBus => ((h.wr CONV_STATUS.timeout 1).stamp 20).latchShared 34 (h.noAccess 34) 0

/-- BUS_CLOCK_TIMEOUT (R515). -/
def execBusClockTimeout (bus : Bus) (s : State) : Host.Outcome State Fault Refusal :=
  .next (onHub (Hub.busTimeout bus false) s)

/-- BUS_DATA_TIMEOUT (R516). -/
def execBusDataTimeout (bus : Bus) (s : State) : Host.Outcome State Fault Refusal :=
  .next (onHub (Hub.busTimeout bus true) s)

/-! ### The table -/

/-- The table as CONV_TABLE shows it. -/
def Hub.tablePresent (h : Hub) : List (Fin 16) := (List.finRange 16).filter fun n => h.is (CONV_TABLE.present n)

/-- CONV_RACK.members counts the entries. -/
def Hub.countTable (h : Hub) : Hub := h.wr CONV_RACK.members h.tablePresent.length

/-- Free an entry. -/
def Hub.freeMember (n : Fin 16) (h : Hub) : Hub :=
  ((h.setWord (0x6010 + n.val) 0).mapRack fun r => { r with members := r.members.set n none }).countTable

/-- Give an entry a holder. -/
def Hub.setMember (n : Fin 16) (m : Member) (mayLead : Bool) (h : Hub) : Hub :=
  let h := h.mapRack fun r => { r with members := r.members.set n (some m) }
  let h := (h.wr (CONV_TABLE.present n) 1).wr (CONV_TABLE.may_lead n) mayLead.toNat
  (h.wr (CONV_TABLE.leader n) (n == h.ownField).toNat).countTable

/-- A summary of nothing but a limit. -/
def Demand.limOnly (lim : Nat) : Demand := { held := 0, floor := 0, want := 0, urgent := 0, lim := lim, scheduled := false }

/-- The summary that stands for a hub whose own the new leader has not heard: its share (log entry 40). -/
def Demand.ofShare (share : Nat) : Demand :=
  { held := share, floor := 0, want := share, urgent := 0, lim := share, scheduled := false }

/-- An action is scheduled (R541, DEMAND flag bit 4). -/
def Hub.actionScheduled (h : Hub) : Bool := h.slotBusy 4

/-- The hub's own summary (R542). -/
def Hub.summary (h : Hub) : Demand :=
  if h.rd BIVOUAC_STATUS.phase ≠ 0 then { Demand.limOnly 0 with scheduled := h.actionScheduled }
  else
    let t := h.ledger.totals[20]
    let lim := min (h.rd HUB_CAP.hub_cap) (h.rd HUB_DERATE.derate)
    let sum := fun (ps : List (Fin 16)) (f : Fin 16 → Nat) => ps.foldl (fun a p => a + f p) 0
    let want := min lim (sum h.sourcePorts h.demand + t.standby)
    { held := t.committed + t.tentative + t.standby
      floor := sum h.sourcePorts h.guaranteeOf + t.standby
      want := want
      urgent := min want (sum (h.sourcePorts.filter fun p => h.classOf p ≤ 1) h.demand)
      lim := lim
      scheduled := h.actionScheduled }

/-! ### Frames sent -/

/-- The sender byte of the hub (R541). -/
def Hub.senderByte (h : Hub) : Byte := BitVec.ofNat 8 (h.card.siteRack % 16 * 16 + h.hubField)

/-- The address byte of a hub field, with W (R522, R359). -/
def hubByte (n : Nat) : Byte := BitVec.ofNat 8 (2 * (0x50 + n))

/-- A mask of the table, by hub field. -/
def tableMask (f : Fin 16 → Bool) : Nat := (List.finRange 16).foldl (fun a n => a + (f n).toNat * 2 ^ n.val) 0

/-- The flags of DEMAND (R541). -/
def Hub.demandFlags (h : Hub) (d : Demand) : Nat :=
  (h.is SYS_STATUS.ready).toNat + 2 * (h.is ENG_STATUS.flask).toNat + 4 * (h.rd BIVOUAC_STATUS.phase != 0).toNat +
    8 * (h.is SYS_STATUS.card_default).toNat + 16 * d.scheduled.toNat

/-- The payload of a frame of the rack layer, or of a firmware message (R541, R550), as of now (log entry 114). -/
def Hub.framePayload (h : Hub) : ConvFrame → List Byte
  | .hello => h.senderByte :: leBytes 1 (h.rd CONV_RACK.may_lead) ++ leBytes 3 h.serial.toNat ++ leBytes 3 h.summary.lim
  | .joinAck _ handover joiner =>
    h.senderByte :: leBytes 1 handover.toNat ++ leBytes 3 joiner.toNat ++ leBytes 2 (h.rd CONV_ROUND.round) ++
      leBytes 4 h.sun.cycle.toNat
  | .joinRefused _ site refused => h.senderByte :: leBytes 1 (1 + site.toNat) ++ leBytes 3 refused.toNat ++ leBytes 1 64
  | .leave => h.senderByte :: leBytes 3 h.serial.toNat
  | .poll =>
    leBytes 2 (h.rd CONV_ROUND.round) ++ leBytes 1 0 ++ leBytes 4 h.sun.cycle.toNat ++
      leBytes 3 (h.rd RACK_BUDGET.budget) ++ leBytes 2 (tableMask fun n => h.is (CONV_TABLE.present n)) ++
      leBytes 2 (tableMask fun n => h.is (CONV_TABLE.may_lead n)) ++ h.senderByte :: leBytes 3 h.serial.toNat
  | .demand d =>
    leBytes 2 (h.rd CONV_ROUND.round) ++ leBytes 1 (h.demandFlags d) ++ leBytes 3 d.held ++ leBytes 3 d.floor ++
      leBytes 3 d.want ++ leBytes 3 d.urgent ++ leBytes 3 d.lim ++
      leBytes 1 (h.presentPorts.filter fun p => h.attached p).length ++
      leBytes 1 (h.presentPorts.filter fun p => (portEntry h.es p [.waiting]).isSome).length ++
      h.senderByte :: leBytes 3 h.serial.toNat
  | .share high =>
    let at_ := fun k : Nat => 8 * high.toNat + k
    leBytes 2 (h.rd CONV_ROUND.round) ++ leBytes 1 high.toNat ++
      leBytes 1 ((List.range 8).foldl (fun a k => a + h.rd (CONV_TABLE.present (at_ k)) * 2 ^ k) 0) ++
      ((List.range 8).map fun k => leBytes 3 (h.rd (CONV_TABLE.share (at_ k)))).flatten ++
      h.senderByte :: leBytes 3 h.serial.toNat
  | .firmware =>
    let data := ((List.range 8).map fun n => leBytes 4 (h.rd (CONV_TX.data n))).flatten
    h.senderByte :: (data.take (h.rd CONV_TXCTRL.count)).drop 1

/-- The address byte of a frame (R541). -/
def Hub.frameDest (h : Hub) : ConvFrame → Byte
  | .hello | .leave | .demand _ => hubByte (h.rd CONV_RACK.leader)
  | .joinAck n _ _ | .joinRefused n _ _ => hubByte n
  | .poll | .share _ => 0
  | .firmware => if h.is CONV_TXCTRL.broadcast then 0 else hubByte (h.rd CONV_TXCTRL.dest)

/-- The type of a frame (R541). -/
def Hub.frameType (h : Hub) : ConvFrame → Byte
  | .hello => 0x01
  | .joinAck _ _ _ => 0x02
  | .joinRefused _ _ _ => 0x03
  | .leave => 0x04
  | .poll => 0x10
  | .demand _ => 0x11
  | .share _ => 0x12
  | .firmware => BitVec.ofNat 8 (h.rd CONV_TXCTRL.type_)

/-- Queue a frame, as R541 lays it out. -/
def Hub.enqueue (f : ConvFrame) (h : Hub) : Hub :=
  h.mapRack fun r => { r with queue := r.queue ++ [⟨f, h.frameDest f, h.frameType f, h.framePayload f⟩] }

/-! ### The lead -/

/-- The active source of a hub configured for SYNC that becomes leader (R67); with the change of source locked reads 0 (DESIGN
CHOICE, log entry 109). -/
def Hub.leadSource (h : Hub) : Hub :=
  if h.sun.cardSource = 1 then
    let wired := h.is SUN_CFG.acz_wired
    let h := (((h.wr SUN_STATUS.active (if wired then 0 else 2)).wr SUN_STATUS.locked 0).wr SUN_STATUS.holdover 0).wr
      SUN_STATUS.slewing 0
    { h with sun := { h.sun with ref := if wired then h.sun.acz else none, inLimit := 0, slew := 0 } }
  else h

/-- The hub becomes leader (R534, R546, R547, R549) with a table made of the last SHARE frames, but for one hub. -/
def Hub.becomeLeader (without : Option (Fin 16)) (h : Hub) : Hub :=
  let h := (((h.wr CONV_RACK.role roleLeader).wr CONV_RACK.leader h.hubField).wr CONV_RACK.missed 0).wr
    SUN_CFG.sync_drive 1
  let h := h.leadSource
  let h := h.mapRack fun r =>
    { r with members := Vector.replicate 16 none, collecting := false, handover := none, takeLead := false,
             helloDue := false }
  let old := h.tablePresent
  let h := match without with | some n => h.freeMember n | none => h
  let h := h.each ((old.filter fun n => some n != without && n != h.ownField)) fun n h =>
    h.setMember n ⟨none, Demand.ofShare (h.rd (CONV_TABLE.share n)), false, false⟩ (h.rack.mayLeadMask.getLsbD n.val)
  let h := h.setMember h.ownField ⟨some h.serial, h.summary, false, false⟩ true
  h.event 20 { ev := .leaderTaken, data := h.rd CONV_ROUND.round }

/-- Frames that only a leader sends. -/
def ConvFrame.leaders : ConvFrame → Bool
  | .poll | .share _ | .joinAck _ _ _ | .joinRefused _ _ _ => true
  | _ => false

/-- The hub stops leading (R537, R549): it drives SYNC no more, and a Sundial configured for SYNC keeps its
active source, with locked 0, until it locks to SYNC anew (DESIGN CHOICE, log entry 109). -/
def Hub.stopLeading (role : Nat) (h : Hub) : Hub :=
  let h := (h.wr CONV_RACK.role role).wr SUN_CFG.sync_drive 0
  let h := if h.sun.cardSource = 1 then
      { h with sun := { h.sun with ref := none, inLimit := 0 } }.wr SUN_STATUS.locked 0
    else h
  let h := h.mapRack fun r =>
    { r with members := Vector.replicate 16 none, collecting := false, handover := none,
             queue := r.queue.filter fun f => !f.kind.leaders,
             retries := if (r.queue.head?.map fun f => f.kind.leaders) == some true then 0 else r.retries,
             losses := if (r.queue.head?.map fun f => f.kind.leaders) == some true then 0 else r.losses }
  h.each (List.finRange 16) fun n h => (h.wr (CONV_TABLE.sched n) 0).wr (CONV_TABLE.misses n) 0

/-- That many rounds of two cycles have passed since READY. -/
def Hub.roundsSinceReady (h : Hub) (n : Nat) : Bool :=
  match h.sun.readyTick with
  | some t => decide (t + n * 0x20000 ≤ h.sun.ticks)
  | none => false

/-- LEADER_ELECTION (R534): no POLL heard and no SYNC pulse accepted in 3 + h rounds of two cycles since READY. -/
def execLeaderElection (s : State) : Host.Outcome State Fault Refusal :=
  .next (onHub (fun h =>
    if h.role = roleListening ∧ h.is CONV_RACK.may_lead ∧ !h.rack.pollHeard ∧ h.rack.syncTick.isNone ∧
        h.is CONV_LINK.link_en ∧ h.power = .run ∧ h.roundsSinceReady (3 + h.hubField) then
      h.becomeLeader none
    else h) s)

/-- SYNC_PULSE (R67): the leader's pulse on the SYNC pin, which no register shows. -/
def execSyncPulse (s : State) : Host.Outcome State Fault Refusal := .next s

/-! ### Membership -/

/-- A frame of the rack layer arrives: its link runs, and the hub takes part in the rack (R533). -/
def onFrame (f : Hub → Hub) (s : State) : State :=
  onHub (fun h => if h.is CONV_LINK.link_en then
      let h := h.bump CONV_CNT1.rx_frames
      if h.role = roleOff then h else f h
    else h) s

/-- The leader answers HELLO (R535, R549). -/
def Hub.answerHello (from_ : Sender) (mayLead : Bool) (lim : Nat) (h : Hub) : Hub :=
  let n := from_.hub
  if from_.site.val ≠ h.card.siteRack % 16 then h.enqueue (.joinRefused n true from_.serial)
  else
    let holder := match h.rack.members[n] with | some m => m.serial | none => none
    if holder.isSome && holder != some from_.serial then h.enqueue (.joinRefused n false from_.serial)
    else
      let handover := mayLead && decide (n.val < h.hubField)
      let h := h.setMember n ⟨some from_.serial, Demand.limOnly lim, false, false⟩ mayLead
      let h := h.wr (CONV_TABLE.misses n) 0
      let h := if handover then h.mapRack fun r => { r with handover := some n } else h
      h.enqueue (.joinAck n handover from_.serial)

/-- HELLO_RECEIVED (R535). -/
def execHelloReceived (from_ : Sender) (mayLead : Bool) (lim : BitVec 24) (s : State) :
    Host.Outcome State Fault Refusal :=
  .next (onFrame (fun h => if h.role = roleLeader then h.answerHello from_ mayLead lim.toNat else h) s)

/-- Slots whose target a load of the cycle number has left behind fire late (R83). -/
def Hub.markLate (h : Hub) : Hub :=
  let late := (List.finRange 32).filter fun n => decide (5 ≤ n.val) && h.slotBusy n.val && !h.slotAhead n.val
  let bits := late.foldl (fun a n => a + 2 ^ n.val) 0
  { h with sun := { h.sun with slotLate := h.sun.slotLate ||| BitVec.ofNat 32 bits } }

/-- JOIN_ACK_RECEIVED (R536, R68, R549). -/
def execJoinAckReceived (from_ : Sender) (handover : Bool) (joiner : BitVec 24) (round : BitVec 16) (cycle : Word)
    (s : State) : Host.Outcome State Fault Refusal :=
  .next (onFrame (fun h =>
    if joiner = h.serial ∧ h.role ≠ roleLeader then
      let old := h.sun.cycle
      let h := { h with sun := { h.sun with cycle := cycle } }.markLate
      let h := (((h.wr CONV_RACK.role roleMember).wr CONV_RACK.leader from_.hub.val).wr CONV_RACK.missed 0).wr
        CONV_ROUND.round round.toNat
      let h := h.mapRack fun r =>
        { r with takeLead := handover, helloDue := false, shareSeen := true, roundCycle := cycle - cycle % 2 }
      let h := h.event 20 { ev := .cycleAdopted, data := cycle.toNat,
                            cont := some (leBytes 4 old.toNat ++ leBytes 4 cycle.toNat) }
      h.event 20 { ev := .joined, data := from_.hub.val }
    else h) s)

/-- JOIN_REFUSED_RECEIVED (R536). -/
def execJoinRefusedReceived (_from : Sender) (site : Bool) (refused : BitVec 24) (_retry : BitVec 8) (s : State) :
    Host.Outcome State Fault Refusal :=
  .next (onFrame (fun h =>
    if refused = h.serial ∧ h.role ≠ roleLeader then
      let reason := if site then 2 else 1
      let h := (h.wr CONV_RACK.role roleRefused).wr CONV_RACK.reason reason
      let h := h.mapRack fun r => { r with refusedAt := h.sun.cycle, helloDue := false, newShare := none }
      let h := (h.event 20 { ev := .joinRefused, data := reason }).latchShared 36 (h.noAccess 36) 0
      let old := h.hubLimit
      ((h.wr RACK_SHARE.valid 0).clearSlot 3).limitChanged 20 old
    else h) s)

/-- HELLO_RETRY (R536): 64 rounds of two cycles since the refusal, or since the last try. -/
def execHelloRetry (s : State) : Host.Outcome State Fault Refusal :=
  .next (onHub (fun h =>
    if h.role = roleRefused ∧ h.is CONV_LINK.link_en ∧ 128 ≤ (h.sun.cycle - h.rack.refusedAt).toNat then
      (h.mapRack fun r => { r with refusedAt := h.sun.cycle }).enqueue .hello
    else h) s)

/-- LEAVE_RECEIVED (R538): the entry is freed at the next round. -/
def execLeaveReceived (from_ : Sender) (s : State) : Host.Outcome State Fault Refusal :=
  .next (onFrame (fun h =>
    match h.rack.members[from_.hub] with
    | some m =>
      if h.role = roleLeader ∧ (m.serial = none ∨ m.serial = some from_.serial) then
        h.mapRack fun r => { r with members := r.members.set from_.hub (some { m with leaving := true }) }
      else h
    | none => h) s)

/-- The hub leaves the rack: LEFT, stamped from the requester of the master that wrote (R627), and no part in it any
longer. -/
def Hub.leaveRack (r : Nat) (h : Hub) : Hub :=
  let was := h.role
  let h := if was = roleLeader then h.stopLeading roleOff else h.wr CONV_RACK.role roleOff
  let h := h.mapRack fun r => { r with helloDue := false, takeLead := false }
  if was = roleMember ∨ was = roleLeader ∨ was = roleLost then h.event r { ev := .left } else h

/-- Clearing link_en (R531): queued frames are discarded, and the hub takes no part in a rack (R533). CONV_LINK.draining never
reads 1 between commands: the frame on the bus ends within the command (DESIGN CHOICE, log entry 89). -/
def Hub.linkDown (r : Nat) (h : Hub) : Hub :=
  let fw := h.rack.queue.any fun f => f.kind == .firmware
  let h := (h.leaveRack r).mapRack fun r => { r with queue := [], retries := 0, losses := 0 }
  if fw then h.wr CONV_TXCTRL.busy 0 else h

/-! ### Budget rounds -/

/-- The target of slot 3: angle 0x0000 of the cycle after the round's (R539). -/
def Hub.setShareSlot (share : Nat) (h : Hub) : Hub :=
  (h.setSlot 3 (h.rack.roundCycle + 1) 0).mapRack fun r => { r with newShare := some share }

/-- BUDGET_ROUND_START (R539, R538, R542): at angle 0x0400 of an even cycle, once in it. -/
def execBudgetRoundStart (s : State) : Host.Outcome State Fault Refusal :=
  .next (onHub (fun h =>
    if h.role = roleLeader ∧ h.is CONV_LINK.link_en ∧ h.sun.cycle.toNat % 2 = 0 ∧ 0x0400 ≤ h.sun.angle.toNat ∧
        h.rack.roundCycle ≠ h.sun.cycle then
      let left := (List.finRange 16).filter fun n => match h.rack.members[n] with | some m => m.leaving | none => false
      let h := h.each left Hub.freeMember
      let h := (h.stamp 20).wr CONV_ROUND.round ((h.rd CONV_ROUND.round + 1) % 0x10000)
      let own := h.summary
      let h := h.mapRack fun r =>
        { r with members := (r.members.map (fun m => m.map fun x => { x with fresh := false })).set h.ownField
                   (some ⟨some h.serial, own, true, false⟩),
                 collecting := true, roundCycle := h.sun.cycle, ownDemand := some own }
      h.enqueue .poll
    else h) s)

/-- POLL_RECEIVED (R542, R533, R537). -/
def execPollReceived (from_ : Sender) (round : BitVec 16) (cycle : Word) (_budget : BitVec 24)
    (_present mayLead : BitVec 16) (s : State) : Host.Outcome State Fault Refusal :=
  .next (onFrame (fun h =>
    let h := h.stamp 20
    let h :=
      if h.role = roleLeader ∧ from_.hub = h.ownField ∧ from_.serial.toNat < h.serial.toNat then
        (h.stopLeading roleListening).event 20 { ev := .duplicateSeen, data := from_.hub.val }
      else h
    if h.role = roleLeader then h
    else
      let own := h.summary
      let h := (h.wr CONV_ROUND.round round.toNat).wr CONV_RACK.leader from_.hub.val
      let h := h.mapRack fun r =>
        { r with pollHeard := true, roundCycle := cycle, shareSeen := false, mayLeadMask := mayLead,
                 ownDemand := some own, helloDue := r.helloDue || h.role == roleListening }
      let h := h.each (List.finRange 16) fun n h =>
        (h.wr (CONV_TABLE.may_lead n) (mayLead.getLsbD n.val).toNat).wr (CONV_TABLE.leader n) (n == from_.hub).toNat
      if (h.role = roleMember ∨ h.role = roleLost) ∧ h.power = .run then
        (h.wr CONV_RACK.role roleMember).enqueue (.demand own)
      else h) s)

/-- The leader takes DEMAND: its POLL is out, and angle 0xE000 of its cycle is ahead (R540). -/
def Hub.collects (h : Hub) : Bool := h.rack.collecting && h.ahead h.rack.roundCycle 0xE000

/-- DEMAND_RECEIVED (R540): taken between POLL and angle 0xE000, with the round's number. -/
def execDemandReceived (from_ : Sender) (round : BitVec 16) (d : Demand) (s : State) :
    Host.Outcome State Fault Refusal :=
  .next (onFrame (fun h =>
    match h.rack.members[from_.hub] with
    | some m =>
      if h.role = roleLeader ∧ h.collects ∧ round.toNat = h.rd CONV_ROUND.round ∧
          (m.serial = none ∨ m.serial = some from_.serial) then
        let m := { m with serial := some from_.serial, last := d, fresh := true }
        let h := h.mapRack fun r => { r with members := r.members.set from_.hub (some m) }
        (h.wr (CONV_TABLE.sched from_.hub) d.scheduled.toNat).wr (CONV_TABLE.misses from_.hub) 0
      else h
    | none => h) s)

/-! #### Shares (R543) -/

/-- Shares being computed, by hub field. -/
abbrev Shares := Vector Nat 16

/-- One unit to each hub below its target, in ascending hub field, while spare lasts. -/
def raisePass (targets : Vector Nat 16) : List (Fin 16) → Shares × Nat → Shares × Nat
  | [], s => s
  | n :: l, (s, spare) =>
    if 1 ≤ spare ∧ s[n] < targets[n] then raisePass targets l (s.set n (s[n] + 1), spare - 1)
    else raisePass targets l (s, spare)

/-- Raise every hub towards its target; each pass but the last takes spare. -/
def raiseAll (targets : Vector Nat 16) : Nat → Shares × Nat → Shares × Nat
  | 0, s => s
  | fuel + 1, s =>
    let t := raisePass targets (List.finRange 16) s
    if t.2 = s.2 then t else raiseAll targets fuel t

/-- The floors (R543): `left` is b less the shares so far. -/
def floorPass (ds : Vector Demand 16) : List (Fin 16) → Shares × Nat → Shares × Nat
  | [], s => s
  | n :: l, (s, left) =>
    let v := min ds[n].floor (min ds[n].lim left)
    floorPass ds l (s.set n v, left - v)

/-- The shares of R543; hubs without an entry have a summary of zeros. -/
def sharesOf (budget : Nat) (ds : Vector Demand 16) (prev : Shares) : Shares :=
  if budget = 0xFFFFFF then ds.map Demand.lim
  else
    let kept := (List.finRange 16).foldl (fun a n => a + (ds[n].held - prev[n])) 0
    let base := floorPass ds (List.finRange 16) (Vector.replicate 16 0, budget - kept)
    let upTo := fun (f : Demand → Nat) (s : Shares × Nat) =>
      raiseAll (ds.map fun d => min (f d) d.lim) s.2 s
    (upTo Demand.lim (upTo Demand.want (upTo Demand.urgent base))).1

/-- The summaries of the members. -/
def Hub.demands (h : Hub) : Vector Demand 16 :=
  h.rack.members.map fun m => match m with | some x => x.last | none => Demand.limOnly 0

/-- A member without DEMAND in this round (R538): counted, or dropped at the third. -/
def Hub.countMiss (n : Fin 16) (h : Hub) : Hub :=
  let k := h.rd (CONV_TABLE.misses n) + 1
  if k = 3 then (h.freeMember n).event 20 { ev := .memberLost, data := n.val } else h.wr (CONV_TABLE.misses n) k

/-- SHARE_COMPUTE (R539, R543, R538): at angle 0xE000 of the round's cycle; the members that are silent a third time are dropped after it. -/
def execShareCompute (s : State) : Host.Outcome State Fault Refusal :=
  .next (onHub (fun h =>
    if h.role = roleLeader ∧ h.rack.collecting ∧ !h.ahead h.rack.roundCycle 0xE000 then
      let prev := Vector.ofFn fun n => h.rd (CONV_TABLE.share n)
      let shares := sharesOf (h.rd RACK_BUDGET.budget) h.demands prev
      let h := (h.stamp 20).mapRack fun r => { r with collecting := false }
      let h := h.each (List.finRange 16) fun n => Hub.wr (CONV_TABLE.share n) shares[n]
      let h := ((h.setShareSlot shares[h.ownField]).enqueue (.share false)).enqueue (.share true)
      let silent := (List.finRange 16).filter fun n =>
        match h.rack.members[n] with | some m => !m.fresh | none => false
      h.each silent Hub.countMiss
    else h) s)

/-- CONV_TABLE takes one hub's place of a SHARE frame. -/
def Hub.takeTable (n : Fin 16) (present : Bool) (share : Nat) (h : Hub) : Hub :=
  (h.wr (CONV_TABLE.present n) present.toNat).wr (CONV_TABLE.share n) share

/-- SHARE_RECEIVED (R539, R540): the round's SHARE, before angle 0x0000 of the next cycle. HELLO follows the round's
second frame (R533), also from a hub that the table no longer holds. -/
def execShareReceived (from_ : Sender) (round : BitVec 16) (high : Bool) (present : BitVec 8)
    (shares : Vector (BitVec 24) 8) (s : State) : Host.Outcome State Fault Refusal :=
  .next (onFrame (fun h =>
    if h.role = roleLeader ∨ round.toNat ≠ h.rd CONV_ROUND.round ∨ from_.hub.val ≠ h.rd CONV_RACK.leader ∨
        !h.ahead (h.rack.roundCycle + 1) 0 then h
    else
      let base := if high then 8 else 0
      let h := h.each (List.finRange 8) fun k =>
        Hub.takeTable ⟨base + k.val, by have := k.isLt; simp only [base]; split <;> omega⟩ (present.getLsbD k.val)
          shares[k].toNat
      let h := h.countTable
      let mine := h.hubField
      let h := if mine / 8 = high.toNat ∧ h.role = roleMember then
          if hm : present.getLsbD (mine % 8) then
            (h.setShareSlot (shares[(⟨mine % 8, by omega⟩ : Fin 8)]).toNat)
          else (h.wr CONV_RACK.role roleListening).mapRack fun r => { r with helloDue := true }
        else h
      let h := (h.wr CONV_RACK.missed 0).mapRack fun r => { r with shareSeen := true }
      if high && h.rack.helloDue && h.role == roleListening then
        (h.mapRack fun r => { r with helloDue := false }).enqueue .hello
      else h) s)

/-- How many hubs of the last may-lead mask, but the old leader, stand before this one (R546). -/
def Hub.leadRank (h : Hub) : Nat :=
  ((List.range h.hubField).filter fun n => h.rack.mayLeadMask.getLsbD n && n != h.rd CONV_RACK.leader).length

/-- No SYNC pulse has been accepted in the last two cycles. -/
def Hub.syncSilent (h : Hub) : Bool :=
  match h.rack.syncTick with
  | some t => decide (t + 0x20000 ≤ h.sun.ticks)
  | none => true

/-- A round is missed (R545): angle 0x0000 after its cycle has come without its SHARE, or without its POLL. -/
def Hub.roundMissed (h : Hub) : Bool :=
  !h.ahead (h.rack.roundCycle + (if h.rack.shareSeen then 3 else 1)) 0

/-- The round that was due is missed, and the next one is due two cycles later. -/
def Hub.missRound (h : Hub) : Hub :=
  (h.mapRack fun r => { r with shareSeen := true, roundCycle := r.roundCycle + if r.shareSeen then 2 else 0 }).bump
    CONV_RACK.missed

/-- ROUND_MISSED (R545, R546): no SHARE has come for the round. -/
def execRoundMissed (s : State) : Host.Outcome State Fault Refusal :=
  .next (onHub (fun h =>
    if (h.role = roleMember ∨ h.role = roleLost) ∧ h.roundMissed then
      let h := h.missRound
      let missed := h.rd CONV_RACK.missed
      let old := h.rd CONV_RACK.leader
      let h := if missed = 3 ∧ h.role = roleMember then
          ((h.wr CONV_RACK.role roleLost).event 20 { ev := .leaderLost, data := old }).latchShared 35 (h.noAccess 35) 0
        else h
      if h.is CONV_RACK.may_lead ∧ missed = 3 + h.leadRank ∧ h.syncSilent ∧ !h.is CONV_STATUS.bus_stuck then
        h.becomeLeader (some ⟨old % 16, by omega⟩)
      else h
    else h) s)

/-- SHARE_HOLD_EXPIRY (R548): share_hold rounds in role LOST. -/
def execShareHoldExpiry (s : State) : Host.Outcome State Fault Refusal :=
  .next (onHub (fun h =>
    if h.role = roleLost ∧ 3 + h.rd CONV_CFG.share_hold ≤ h.rd CONV_RACK.missed ∧ h.is RACK_SHARE.valid then
      let floor := match h.rack.ownDemand with | some d => d.floor | none => 0
      (h.stamp 20).takeShare (min (h.rd RACK_SHARE.share) floor)
    else h) s)

/-- HANDOVER_LAST_SYNC (R549): at angle 0x0000 of the cycle after the round's. -/
def execHandoverLastSync (s : State) : Host.Outcome State Fault Refusal :=
  .next (onHub (fun h =>
    match h.rack.handover with
    | some n =>
      if h.role = roleLeader ∧ !h.ahead (h.rack.roundCycle + 1) 0 then
        let h := ((h.stopLeading roleMember).wr CONV_RACK.leader n.val).event 20 { ev := .handover, data := n.val }
        h.mapRack fun r => { r with shareSeen := true }
      else h
    | none => h) s)

/-- HANDOVER_SYNC_START (R549): at angle 0x0000 of cycle c + 2; the old leader stays in the table as a member (log entry 41). -/
def execHandoverSyncStart (s : State) : Host.Outcome State Fault Refusal :=
  .next (onHub (fun h => if h.rack.takeLead ∧ h.role = roleMember ∧ !h.ahead (h.rack.roundCycle + 2) 0 then h.becomeLeader none
    else h) s)

/-! ### Firmware messages -/

/-- The table of R541 has a firmware message of this type and count. -/
def firmwareFrame (type_ : BitVec 8) (payload : List Byte) : Bool :=
  decide (0x20 ≤ type_.toNat) && decide (type_.toNat ≤ 0x3F) && decide (3 ≤ payload.length) && decide (payload.length ≤ 32)

/-- FW_MSG_RX (R551, R568, R541): at most two are held, and none is taken during a warm restart; a type that R541 does not
list is discarded. -/
def execFwMsgRx (sender : Fin 16) (broadcast : Bool) (type_ : BitVec 8) (payload : List Byte) (s : State) :
    Host.Outcome State Fault Refusal :=
  .next (onHub (fun h =>
    if !h.is CONV_LINK.link_en then h
    else if !firmwareFrame type_ payload then h.bump CONV_CNT2.rx_discarded
    else if decide (h.rack.rx.length < 2) && !h.restarting then
      let h := (h.bump CONV_CNT1.rx_frames).mapRack fun r => { r with rx := r.rx ++ [⟨sender.val, broadcast, type_, payload⟩] }
      h.event 20 { ev := .fwMsgRx, data := type_.toNat }
    else h) s)

/-- A write of CONV_TXCTRL.go (R550): the message is queued. -/
def Hub.sendFirmware (h : Hub) : Hub :=
  ((h.wr CONV_TXCTRL.busy 1).wr CONV_TXCTRL.result 0).enqueue .firmware

/-- A write of 1 to CONV_RXSTAT.valid frees the place of the oldest message (R551). -/
def Hub.releaseRx (h : Hub) : Hub := h.mapRack fun r => { r with rx := r.rx.tail }

/-! ### The whistle -/

/-- A whistle is due (R519, R514): none has gone out since one became pending, or whistle_gap milliseconds have passed since
its end. -/
def Hub.whistleDue (h : Hub) : Bool :=
  h.power == .run && h.is HOST_STATUS.whistle_pending && h.is HOST_CFG.whistle_en &&
    (match h.whistled with
      | some t => decide (t + h.rd HOST_CFG.whistle_gap * 300000 ≤ h.sun.clk)
      | none => true)

/-- WHISTLE (R519). -/
def execWhistle (s : State) : Host.Outcome State Fault Refusal :=
  .next (onHub (fun h => if h.whistleDue then { h with whistled := some h.sun.clk }.bump HOST_CNT.whistles else h) s)

/-- WHISTLE_ABORT (R520): the hub releases SDA; the whistle stays pending. -/
def execWhistleAbort (s : State) : Host.Outcome State Fault Refusal := .next s

end Sys2Proof.Machine
end

