-- ==== Sys2Proof/Machine/Firmware.lean ====
section
/-! DEFINITION. Firmware (chapter 16): booking and warm restart, the Denoc service port, flash operations, fuses, Base
Camp. -/

namespace Sys2Proof.Machine

open Sys2Proof.Reg

/-! ### Slots -/

/-- Bytes written into a slot since its erase, if it has been erased. -/
def Hub.written (h : Hub) (b : Bool) : Option Nat := if b then h.fw.writtenB else h.fw.writtenA

/-- A slot has passed R562. -/
def Hub.verifiedSlot (h : Hub) (b : Bool) : Bool := if b then h.fw.verifiedB else h.fw.verifiedA

/-- Change what is known of a slot: bytes written, verified, verified as failed. -/
def Hub.setSlotInfo (b : Bool) (written : Option Nat) (verified failed : Bool) (h : Hub) : Hub :=
  let fw := if b then { h.fw with writtenB := written, verifiedB := verified, failedB := failed }
    else { h.fw with writtenA := written, verifiedA := verified, failedA := failed }
  ({ h with fw := fw } : Hub).showInactive.showVersions

/-- The slot that is not running. -/
def Hub.inactive (h : Hub) : Bool := !h.is FW_SLOTS.running

/-- The slot that WRITE fills: the inactive one, in Base Camp the one erased last (log entry 46). -/
def Hub.writeSlot (h : Hub) : Bool := if h.is SYS_STATUS.basecamp then h.fw.lastErased else h.inactive

/-! ### Bookings -/

/-- A warm restart is booked, or has fired and waits (R565, R567). -/
def Hub.booked (h : Hub) : Bool := h.rd FW_STATUS.phase == 1 || h.rd FW_STATUS.phase == 2

/-- Book activation of the inactive slot (R565), late where the angle has passed (R86); the event is stamped from a
requester. -/
def Hub.book (r : Nat) (cycle : Word) (angle : BitVec 16) (rack : Bool) (h : Hub) : Hub :=
  let late := if h.ahead cycle angle then h.sun.slotLate &&& ~~~(0x10 : Word) else h.sun.slotLate ||| 0x10
  let h : Hub := { h with sun := { h.sun with slotLate := late } }
  let h := ((h.setSlot 4 cycle angle).wr FW_STATUS.phase 1).wr FW_STATUS.rack rack.toNat
  h.event r { ev := .activationScheduled, data := h.inactive.toNat,
              cont := some (leBytes 4 cycle.toNat ++ leBytes 2 angle.toNat) }

/-- The booking goes. -/
def Hub.unbook (h : Hub) : Hub := ((h.clearSlot 4).wr FW_STATUS.phase 0).wr FW_STATUS.rack 0

/-- Cancel a booking, if there is one (R562, R565). -/
def Hub.cancelBooking (r : Nat) (h : Hub) : Hub :=
  if h.booked then
    (h.unbook.wr FW_ACT_CTRL.act_status 4).event r { ev := .activationCancelled, data := h.inactive.toNat }
  else h

/-- A target lies outside the window of R85. -/
def Hub.outsideWindow (h : Hub) (cycle : Word) : Bool := 0x80000000 ≤ (cycle - h.sun.cycle).toNat

/-- Activation of the inactive slot may be booked (R565). -/
def Hub.mayBook (h : Hub) : Bool := h.verifiedSlot h.inactive && !h.restarting && !h.is SYS_STATUS.basecamp

/-- A write of FW_ACT_CTRL.go (R565). -/
def Hub.actGo (r : Nat) (h : Hub) : Hub :=
  let cycle : Word := BitVec.ofNat 32 (h.rd FW_ACT_CYCLE.cycle)
  if !h.mayBook then h.wr FW_ACT_CTRL.act_status 2
  else if h.outsideWindow cycle then h.wr FW_ACT_CTRL.act_status 3
  else (h.wr FW_ACT_CTRL.act_status 1).book r cycle (BitVec.ofNat 16 (h.rd FW_ACT_CTRL.angle)) false

/-- A write of FW_ACT_CTRL.cancel (R565): CANCELLED, or ALREADY_FIRED from the firing on. -/
def Hub.actCancel (r : Nat) (h : Hub) : Hub :=
  match h.rd FW_STATUS.phase with
  | 1 => if h.slotAhead 4 then h.cancelBooking r else h.wr FW_ACT_CTRL.act_status 5
  | 2 | 3 | 4 => h.wr FW_ACT_CTRL.act_status 5
  | _ => h

/-! ### The warm restart -/

/-- What a restart rolls back on a port (R569): a TENTATIVE entry without its accepted bit, and a WAITING one. -/
def Hub.rollbackUnaccepted (p : Fin 16) (h : Hub) : Hub :=
  let h := match portEntry h.es p [.tentative] with
    | some i => if h.es[i].accepted then h else h.rollbackByHamper p
    | none => h
  let h := (h.freeEntry p [.waiting]).dropSpec p
  if h.tc p = tcAttachWaitSrc then h.pwr p PORT_STATUS.held 1 else h

/-- The engines halt, and no R54 applies (R569). -/
def Hub.stopEngines (h : Hub) : Hub :=
  ((h.wr ENG_STATUS.state_a 0).wr ENG_STATUS.state_b 0).wr PE_STATUS.halted h.part.portMask

/-- Check, load and release the image of a slot (R571, R564, R381–R383); a slot that fails its checks leaves the engines
halted until R572 acts. Ports without a record adopt at once. -/
def Hub.runImage (b : Bool) (h : Hub) : Hub :=
  let h := h.readErrors (slotBase b) (slotBase b + slotSize)
  if h.slotValid b then
    let h := ((h.loadImage b).wr ENG_STATUS.state_a 1).wr ENG_STATUS.primary 0
    let h := h.showInactive.endFlask
    let alone := h.presentPorts.filter fun p => !h.recordMask.testBit p.val
    (h.each alone fun p => Hub.mapPort p fun s => { s with auto := false }).wr FW_STATUS.adopted
      (alone.foldl (fun a p => a + 2 ^ p.val) 0)
  else h

/-- A warm restart into a slot (R568–R571), under the last stamp. -/
def Hub.restart (b : Bool) (phase : Nat) (h : Hub) : Hub :=
  let h := h.log { ev := .warmRestart, data := b.toNat }
  let h := ((h.wr SYS_STATUS.ready 0).wr FW_STATUS.phase phase).wr FW_STATUS.adopted 0
  let h := { h with fw := { h.fw with stampSeq := h.seq, stampClk := h.sun.clk, readyOk := false } }
  let h := h.stopEngines
  let h := h.each h.presentPorts Hub.rollbackUnaccepted
  let h := h.each h.presentPorts fun p => Hub.mapPort p fun s => { s with auto := true }
  let h := h.saveAll b
  h.zeroEngines.runImage b

/-- What a firing of slot 4 waits for (R567). -/
def Hub.restartBlocked (h : Hub) : Bool :=
  h.rd BIVOUAC_STATUS.phase == 1 || h.rd BIVOUAC_STATUS.phase == 3 || h.is CARD_STATUS.erase_busy

/-- WARM_RESTART (R567, R569): slot 4 fires, stamped from the Sundial and logged (R80), and the restart begins at that stamp;
while R567 holds it back the restart waits, and starts later on a stamp of its own. -/
def execWarmRestart (s : State) : Host.Outcome State Fault Refusal :=
  .next (onHub (fun h =>
    let b := h.inactive
    if h.rd FW_STATUS.phase = 1 ∧ h.slotDue 4 then
      let h := ((h.wake.event 18 { ev := .slotFired, data := 4 }).clearSlot 4).wr FW_STATUS.phase 2
      if h.restartBlocked then { h with fw := { h.fw with firedClk := h.sun.clk } }
      else (h.wr FW_STATUS.rack 0).restart b 3
    else if h.rd FW_STATUS.phase = 2 ∧ !h.restartBlocked then ((h.stamp 24).wr FW_STATUS.rack 0).restart b 3
    else h) s)

/-- Two seconds, in ticks of the core clock. -/
def twoSeconds : Nat := 600000000

/-- ACTIVATION_SKIPPED (R567): 2 s after the firing, with the restart still held back. -/
def execActivationSkipped (s : State) : Host.Outcome State Fault Refusal :=
  .next (onHub (fun h =>
    if h.rd FW_STATUS.phase = 2 ∧ h.restartBlocked ∧ h.fw.firedClk + twoSeconds ≤ h.sun.clk then (h.unbook.wr FW_ACT_CTRL.act_status 0).event 24 { ev := .activationSkipped }
    else h) s)

/-- Every present port has adopted (R571). -/
def Hub.allAdopted (h : Hub) : Bool := h.presentPorts.all fun p => (h.rd FW_STATUS.adopted).testBit p.val

/-- Milliseconds since the stamp of the restart. -/
def Hub.msSinceStamp (h : Hub) : Nat := (h.sun.clk - h.fw.stampClk) / 300000

/-- READY after a warm restart (R571): the boot selector moves to the slot that runs. -/
def Hub.checkWarm (h : Hub) : Hub :=
  if h.restarting && h.allAdopted && h.fw.readyOk then
    let h := ((h.wr SYS_STATUS.ready 1).wr SYS_STATUS.warm 1).wr FW_STATUS.phase 0
    (h.wr FW_SLOTS.selected (h.rd FW_SLOTS.running)).event 24 { ev := .warmReady, data := min 0xFFFF h.msSinceStamp }
  else h

/-- A port engine adopts its port (R571). -/
def Hub.adopt (p : Fin 16) (h : Hub) : Hub :=
  let h := (h.mapPort p fun s => { s with auto := false }).wr FW_STATUS.adopted (h.rd FW_STATUS.adopted ||| 2 ^ p.val)
  ((h.tryLeaveRest p).pump p).checkWarm

/-- Supervisor A writes FW_CTRL.ready_ok (R571). -/
def Hub.takeReadyOk (h : Hub) : Hub :=
  if h.restarting then ({ h with fw := { h.fw with readyOk := true } } : Hub).checkWarm else h

/-- The old slot, as the header of the restart names it (R570). -/
def Hub.oldSlot (h : Hub) : Bool := (h.memByte 0x23000010).getLsbD 0

/-- WARM_RESTART_TIMEOUT (R572): 2 s after the stamp of the restart, back to the old slot, and 2 s after that to Base
Camp. -/
def execWarmRestartTimeout (s : State) : Host.Outcome State Fault Refusal :=
  .next (onHub (fun h =>
    if h.sun.clk < h.fw.stampClk + twoSeconds then h
    else match h.rd FW_STATUS.phase with
    | 3 =>
      let old := h.oldSlot
      let missing := h.part.portMask - h.rd FW_STATUS.adopted
      let h := (h.latchMonitor 22).event 24 { ev := .reverted, data := missing }
      (h.stamp 24).restart old 4
    | 4 => h.enterCamp 24 3
    | _ => h) s)

/-! ### Fuses -/

/-- Burn fuses one at a time (R563). -/
def Hub.burn (r : Nat) : Nat → Hub → Hub
  | 0, h => h
  | n + 1, h =>
    let f := h.rd FW_SLOTS.fuses + 1
    ((h.wr FW_SLOTS.fuses f).event r { ev := .rollbackRaised, data := f }).burn r n

/-- A write of FW_CTRL.commit (R563). -/
def Hub.commitFuses (r : Nat) (h : Hub) : Hub :=
  let c := h.fw.commitCounter
  let h := h.burn r (min c 64 - h.rd FW_SLOTS.fuses)
  if 64 < c then (h.latchMonitor 59).event r { ev := .raiseRefused, data := c } else h

/-! ### Flash operations (R577, R366, R367) -/

/-- The Route Card copy that holds an address. -/
def cardCopyOf (a : Nat) : Option Bool :=
  if 0x081C0000 ≤ a ∧ a < 0x081C8000 then some false else if 0x081C8000 ≤ a ∧ a < 0x081D0000 then some true else none

/-- An operation at an address is denied wherever it is (R577, R366, R367). -/
def Hub.flashDenied (h : Hub) (a : Nat) (program : Bool) : Bool :=
  let run := h.is FW_SLOTS.running
  decide (slotBase run ≤ a ∧ a < slotBase run + slotSize) || decide (0x081D0000 ≤ a) ||
    (match cardCopyOf a with
      | some c =>
        h.copyWorn c || (if program then !(if c then h.fw.erasedCardB else h.fw.erasedCardA) else h.copyInUse c)
      | none => false)

/-- A write of FLASH_CMD with an operation (R577): the job, or DENIED. -/
def Hub.flashOp (erase : Bool) (h : Hub) : Hub :=
  let a := h.rd FLASH_ADDR.addr
  if h.flashDenied a (!erase) || (!erase && h.fw.programmed.contains a) then h.wr FLASH_CMD.flash_result 2
  else
    let job : FlashJob := if erase then .erase (maskWord (a / 0x4000 * 0x4000))
      else .program (maskWord a) (h.word 0x8009) (h.word 0x800A)
    let h := match cardCopyOf a with
      | some c => if erase then h.countErase c else h
      | none => h
    ({ h with fw := { h.fw with flashJob := job } }.wr FLASH_CMD.flash_busy 1).wr FLASH_CMD.flash_result 0

/-- A word has been programmed by FLASH_CMD: an erased slot that holds it is unwritten no longer (FW_SLOTS.erased, R561). -/
def Hub.wordWritten (a : Nat) (h : Hub) : Hub :=
  let used := fun (n : Option Nat) => if n = some 0 then none else n
  let fw := if a < 0x080E0000 then { h.fw with writtenA := used h.fw.writtenA }
    else if a < 0x081C0000 then { h.fw with writtenB := used h.fw.writtenB }
    else h.fw
  ({ h with fw := fw } : Hub).showInactive

/-- FLASH_OP_DONE (R577): the slots and their versions show the new content (FW_SLOTS, FW_VER_A, FW_VER_B). -/
def execFlashOpDone (ok : Bool) (s : State) : Host.Outcome State Fault Refusal :=
  .next (onHub (fun h =>
    if h.is FLASH_CMD.flash_busy then
      let done : Hub := match h.fw.flashJob with
        | .program a lo hi =>
          ((h.programFlash a.toNat (leBytes 4 lo.toNat ++ leBytes 4 hi.toNat)).wordWritten a.toNat).showVersions
        | .erase a => (h.eraseFlash a.toNat (a.toNat + 0x4000)).showVersions
        | _ => h
      let h := if ok then done else h
      ({ h with fw := { h.fw with flashJob := .none } }.wr FLASH_CMD.flash_busy 0).wr FLASH_CMD.flash_result
        (if ok then 1 else 3)
    else h) s)

/-! ### Denoc sessions and replies -/

/-- A session is open. -/
def Hub.session (h : Hub) : Bool := h.is DENOC_STATUS.session

/-- A frame that the hub sends (R553): SOF, type, sequence, length, payload and the CRC-32 over bytes 1 to the last payload
byte. -/
def denocFrame (type_ seq : Byte) (payload : List Byte) : List Byte :=
  let body := type_ :: seq :: (leBytes 2 payload.length ++ payload)
  0xA5 :: (body ++ leBytes 4 (crc32 body))

/-- The bytes of a reply on SVC_TX (R552–R554): its payload starts with the command type, and a NACK adds its reason. -/
def DenocReply.bytes : DenocReply → List Byte
  | .none => []
  | .echo => [0x55]
  | .ack t seq payload => denocFrame 0x80 seq (t :: payload)
  | .nack t seq reason more => denocFrame 0x81 seq (t :: reason :: more)

/-- Put a reply on SVC_TX. -/
def Hub.sendReply (r : DenocReply) (h : Hub) : Hub := { h with fw := { h.fw with sent := r.bytes } }

/-- Send the reply of an executed command, and keep it for a repeat (R554). -/
def Hub.reply (r : DenocReply) (h : Hub) : Hub := ({ h with fw := { h.fw with reply := r } } : Hub).sendReply r

/-- ACK (R554). -/
def Hub.ack (type_ seq : BitVec 8) (payload : List Byte) (h : Hub) : Hub := h.reply (.ack type_ seq payload)

/-- The NACK answers a frame that was not executed: FRAME, SEQUENCE, BUSY (R554, R555, R557). -/
def notExecuted (reason : Nat) : Bool := reason == 1 || reason == 2 || reason == 12

/-- NACK (R554, R557): counted, its reason kept, and logged but for SEQUENCE and BUSY. A NACK to a frame that was not
executed leaves the last executed command's reply for its repeat. -/
def Hub.nack (type_ seq : BitVec 8) (reason : Nat) (more : List Byte) (h : Hub) : Hub :=
  let r := DenocReply.nack type_ seq (BitVec.ofNat 8 reason) more
  let h := (h.wr DENOC_STATUS.last_nack reason).bump DENOC_CNT.nacks
  let h := if notExecuted reason then h.sendReply r else h.reply r
  if reason = 2 ∨ reason = 12 then h
  else h.event 22 { ev := .denocNack, data := type_.toNat * 256 + reason }

/-- An erase or a verify runs (R557); the sequence of its command. -/
def Hub.jobSeq (h : Hub) : Option (BitVec 8) :=
  match h.fw.job with
  | .eraseSlot _ q | .verify _ q => some q
  | _ => none

/-- A valid frame has come: the session stays open for 10 s more (R552). -/
def Hub.heard (h : Hub) : Hub := { h with fw := { h.fw with heardClk := h.sun.clk } }

/-- A command is executed: its sequence is kept, and it is counted (R554). -/
def Hub.accept (seq : BitVec 8) (h : Hub) : Hub :=
  ({ h with fw := { h.fw with lastSeq := some seq } } : Hub).bump DENOC_CNT.frames

/-- A command frame of an open session (R554): BUSY while a job runs, the last reply again to a repeat, SEQUENCE out of
order, else it is executed. A repeat of the command whose job still runs gets no reply yet (DESIGN CHOICE, log entry 116). -/
def Hub.command (type_ : Nat) (seq : BitVec 8) (f : BitVec 8 → Hub → Hub) (h : Hub) : Hub :=
  let t := BitVec.ofNat 8 type_
  if !h.session then h
  else
    let h := h.heard
    match h.jobSeq with
    | some q => if q = seq then h else h.nack t seq 12 []
    | none =>
      match h.fw.lastSeq with
      | some q =>
        if seq = q then h.sendReply h.fw.reply
        else if seq = q + 1 then f t (h.accept seq)
        else h.nack t seq 2 []
      | none => f t (h.accept seq)

/-- DENOC_SESSION_OPEN (R552, R370): the rate in 100 baud, 115,200 to 3,000,000 baud. -/
def execDenocSessionOpen (baud : BitVec 16) (s : State) : Host.Outcome State Fault Refusal :=
  .next (onHub (fun h =>
    let h := h.wake
    if 1152 ≤ baud.toNat ∧ baud.toNat ≤ 30000 then
      let h := (h.wr DENOC_STATUS.session 1).wr DENOC_STATUS.baud baud.toNat
      let h := (({ h with fw := { h.fw with lastSeq := none } } : Hub).heard).reply .echo
      h.event 22 { ev := .denocSession, data := baud.toNat }
    else h) s)

/-- DENOC_SESSION_TIMEOUT (R552): 10 s without a valid frame. -/
def execDenocSessionTimeout (s : State) : Host.Outcome State Fault Refusal :=
  .next (onHub (fun h =>
    if h.session && decide (h.fw.heardClk + 3000000000 ≤ h.sun.clk) then
      (h.wr DENOC_STATUS.session 0).wr DENOC_STATUS.baud 0
    else h) s)

/-- DENOC_FRAME_ERROR (R555): `head` holds type and sequence, if both bytes arrived. -/
def execDenocFrameError (head : Option (BitVec 8 × BitVec 8)) (s : State) : Host.Outcome State Fault Refusal :=
  .next (onHub (fun h =>
    if h.session then
      let h := (h.bump DENOC_CNT.frame_err).latchMonitor 39
      match head with
      | some x => h.nack x.1 x.2 1 []
      | none => h
    else h) s)

/-! ### Denoc commands (R556) -/

/-- The payload of INFO's reply after the type (log entry 47 says how it is laid out). -/
def Hub.infoBytes (h : Hub) : List Byte :=
  leBytes 2 h.part.code ++ leBytes 1 h.stepping ++ leBytes 1 (h.rd FW_SLOTS.running) ++
    leBytes 1 (h.rd FW_SLOTS.selected) ++ leBytes 4 (h.word 0x8000).toNat ++ leBytes 4 (h.word 0x8001).toNat ++
    leBytes 4 (h.word 0x8002).toNat ++ leBytes 1 (h.rd FW_SLOTS.fuses) ++ leBytes 4 (h.word 0x8006).toNat ++
    leBytes 4 (h.word 0).toNat

/-- DENOC_INFO (R556). -/
def execDenocInfo (seq : BitVec 8) (s : State) : Host.Outcome State Fault Refusal :=
  .next (onHub (Hub.command 0x01 seq fun t h => h.ack t seq h.infoBytes) s)

/-- A slot byte. -/
def slotOf (b : BitVec 8) : Option Bool := if b = 0 then some false else if b = 1 then some true else none

/-- DENOC_ERASE_SLOT (R556, R562, R575): either slot in Base Camp, else the inactive one. -/
def execDenocEraseSlot (seq slot : BitVec 8) (s : State) : Host.Outcome State Fault Refusal :=
  .next (onHub (Hub.command 0x02 seq fun t h =>
    match slotOf slot with
    | none => h.nack t seq 4 []
    | some b =>
      if b = h.inactive ∨ h.is SYS_STATUS.basecamp then
        let h := (h.setSlotInfo b none false false).cancelBooking 22
        { h with fw := { h.fw with job := .eraseSlot b seq, lastErased := b } }
      else h.nack t seq 5 []) s)

/-- SLOT_ERASED (R556). -/
def execSlotErased (s : State) : Host.Outcome State Fault Refusal :=
  .next (onHub (fun h =>
    match h.fw.job with
    | .eraseSlot b seq =>
      let h := ({ h with fw := { h.fw with job := .none } } : Hub).eraseFlash (slotBase b) (slotBase b + slotSize)
      ((h.setSlotInfo b (some 0) false false).event 22 { ev := .slotErased, data := b.toNat }).ack 0x02 seq []
    | _ => h) s)

/-- The bytes of a WRITE are programmed into a slot (R561); they cancel a booking of it and clear verified (R562). -/
def Hub.writeImage (t seq : BitVec 8) (b : Bool) (offset : Nat) (bytes : List Byte) (h : Hub) : Hub :=
  let h := (h.programFlash (slotBase b + offset) bytes).cancelBooking 22
  (h.setSlotInfo b (some (offset + bytes.length)) false false).ack t seq []

/-- The first WRITE after an erase (R560). -/
def Hub.firstWrite (t seq : BitVec 8) (b : Bool) (bytes : List Byte) (h : Hub) : Hub :=
  if bytes.length < 256 then h.nack t seq 5 []
  else
    let c := h.refuseHeader (bytes.take 256)
    if c = 8 then ((h.wr FW_STATUS.refuse 8).latchMonitor 59).nack t seq 7 []
    else if c ≠ 0 then (h.wr FW_STATUS.refuse c).nack t seq 6 (leBytes 1 c)
    else if (headerOf bytes).length + 128 < bytes.length then h.nack t seq 5 []
    else h.writeImage t seq b 0 bytes

/-- DENOC_WRITE (R560, R561). -/
def execDenocWrite (seq : BitVec 8) (offset : Word) (bytes : List Byte) (s : State) :
    Host.Outcome State Fault Refusal :=
  .next (onHub (Hub.command 0x03 seq fun t h =>
    let n := bytes.length
    let b := h.writeSlot
    if n < 8 ∨ 1016 < n ∨ n % 8 ≠ 0 then h.nack t seq 4 []
    else
      match h.written b with
      | none => h.nack t seq 5 []
      | some 0 => if offset = 0 then h.firstWrite t seq b bytes else h.nack t seq 5 []
      | some k =>
        if offset.toNat ≠ k ∨ (headerOf (h.slotHeader b)).length + 128 < k + n then h.nack t seq 5 []
        else h.writeImage t seq b k bytes) s)

/-- DENOC_VERIFY (R562): every byte has been written. -/
def execDenocVerify (seq slot : BitVec 8) (s : State) : Host.Outcome State Fault Refusal :=
  .next (onHub (Hub.command 0x04 seq fun t h =>
    match slotOf slot with
    | none => h.nack t seq 4 []
    | some b =>
      match h.written b with
      | none | some 0 => h.nack t seq 5 []
      | some k =>
        if k = (headerOf (h.slotHeader b)).length + 128 then { h with fw := { h.fw with job := .verify b seq } }
        else h.nack t seq 5 []) s)

/-- A slot has been checked as failed (R562, R564). -/
def Hub.verifyFailed (b : Bool) (seq : BitVec 8) (reason : Nat) (h : Hub) : Hub :=
  (h.setSlotInfo b (h.written b) false true).nack 0x04 seq reason []

/-- IMAGE_VERIFIED (R562, R557): the checks of VERIFY end. -/
def execImageVerified (s : State) : Host.Outcome State Fault Refusal :=
  .next (onHub (fun h =>
    match h.fw.job with
    | .verify b seq =>
      let h : Hub := { h with fw := { h.fw with job := .none } }
      let stop := slotBase b + (headerOf (h.slotHeader b)).length + 128
      let h := h.readErrors (slotBase b) stop
      if h.uncorrectable (slotBase b) stop then h.verifyFailed b seq 10
      else if !h.crcGood b then h.verifyFailed b seq 8
      else if !h.signatureGood b then (h.latchMonitor 58).verifyFailed b seq 9
      else
        ((h.setSlotInfo b (h.written b) true false).event 22 { ev := .imageVerified, data := b.toNat }).ack 0x04 seq []
    | _ => h) s)

/-- DENOC_SCHEDULE (R565, R566, R575). -/
def execDenocSchedule (seq : BitVec 8) (cycle : Word) (angle : BitVec 16) (flags : BitVec 8) (s : State) :
    Host.Outcome State Fault Refusal :=
  .next (onHub (Hub.command 0x05 seq fun t h =>
    if 1 < flags.toNat then h.nack t seq 4 []
    else if !h.mayBook ∨ (flags = 1 ∧ h.role ≠ roleLeader) then h.nack t seq 5 []
    else if h.outsideWindow cycle then h.nack t seq 11 []
    else (h.book 22 cycle angle (flags == 1)).ack t seq []) s)

/-- The tick after this one. -/
def Hub.nextTick (h : Hub) : Word × BitVec 16 :=
  (if h.sun.angle = 0xFFFF then h.sun.cycle + 1 else h.sun.cycle, h.sun.angle + 1)

/-- DENOC_ACTIVATE_NOW (R565, R575): in Base Camp the selector is written and a power-on reset follows. -/
def execDenocActivateNow (seq slot : BitVec 8) (s : State) : Host.Outcome State Fault Refusal :=
  .next (onHub (Hub.command 0x06 seq fun t h =>
    match slotOf slot with
    | none => h.nack t seq 4 []
    | some b =>
      if h.is SYS_STATUS.basecamp then
        if h.verifiedSlot b then (h.wr FW_SLOTS.selected b.toNat).powerReset wakeCold else h.nack t seq 5 []
      else if h.mayBook ∧ b = h.inactive then
        (h.ack t seq []).book 22 h.nextTick.1 h.nextTick.2 false
      else h.nack t seq 5 []) s)

/-- Rows of the flash ring, from one on, wrapping after the last. -/
def Hub.ringBytes (h : Hub) (first n : Nat) : List Byte :=
  ((List.range n).map fun i => h.memBytes (ringRow ((first + i) % 1024)) 128).flatten

/-- DENOC_READ_LOG (R556, R557). -/
def execDenocReadLog (seq : BitVec 8) (first : BitVec 16) (rows : BitVec 8) (s : State) :
    Host.Outcome State Fault Refusal :=
  .next (onHub (Hub.command 0x07 seq fun t h =>
    let n := rows.toNat
    if n = 0 ∨ 8 < n ∨ 1023 < first.toNat then h.nack t seq 4 []
    else
      let words := (List.range (16 * n)).map fun i => ringRow ((first.toNat + i / 16) % 1024) + 8 * (i % 16)
      let r := words.foldl (fun (x : Hub × Bool) a => let y := x.1.readWord a 21 0; (y.1, x.2 || y.2)) (h, false)
      if r.2 then r.1.nack t seq 10 [] else r.1.ack t seq (r.1.ringBytes first.toNat n)) s)

/-- DENOC_ENTER_BASECAMP (R574, R575): key bytes 0xCA, 0x5E. -/
def execDenocEnterBasecamp (seq : BitVec 8) (key : BitVec 16) (s : State) : Host.Outcome State Fault Refusal :=
  .next (onHub (Hub.command 0x08 seq fun t h =>
    if key ≠ 0x5ECA then h.nack t seq 4 []
    else if h.is SYS_STATUS.basecamp then h.ack t seq []
    else ((h.each h.presentPorts Hub.safeState).enterCamp 22 4).ack t seq []) s)

/-- The types of R556. -/
def knownType (t : BitVec 8) : Bool := 1 ≤ t.toNat && t.toNat ≤ 8

/-- DENOC_UNKNOWN_TYPE (R556, R557): nothing for a type that R556 names. -/
def execDenocUnknownType (seq type_ : BitVec 8) (s : State) : Host.Outcome State Fault Refusal :=
  .next (if knownType type_ then s else onHub (Hub.command type_.toNat seq fun t h => h.nack t seq 3 []) s)

end Sys2Proof.Machine
end

