-- ==== Sys2Proof/Machine/Modes.lean ====
section
/-! DEFINITION. Power modes (R368–R372) and power-on reset as a command (R345, R346). -/

namespace Sys2Proof.Machine

open Sys2Proof.Reg

/-! ### Watch mode -/

/-- Nothing stands against Watch mode (R369). -/
def Hub.mayWatch (h : Hub) : Bool :=
  freeEntries h.es == 64 && (h.presentPorts.all fun p => h.prd p PORT_STATUS.run != 2) &&
    h.rd BIVOUAC_STATUS.phase == 0 && h.role != roleLeader && !h.is HOST_STATUS.busy && h.jobSeq.isNone

/-- Enter Watch mode (R369, R98): the Sundial goes on in hold-over. -/
def Hub.enterWatch (h : Hub) : Hub :=
  if h.power ≠ .run then h
  else if h.mayWatch then
    let h := { h with power := .watch }.wr SYS_MODE.mode_result 1
    if h.is SUN_STATUS.locked && h.rd SUN_STATUS.active != 2 then h.wr SUN_STATUS.holdover 1 else h
  else h.wr SYS_MODE.mode_result 2

/-- No port has been attached for watch_idle seconds (R369). -/
def Hub.idleLong (h : Hub) : Bool :=
  !h.presentPorts.any h.attached && decide (h.attachedClk + h.rd WAKE_CFG.watch_idle * 300000000 ≤ h.sun.clk)

/-- WATCH_AUTO_ENTRY (R369): watch_idle seconds have passed without a port attached. -/
def execWatchAutoEntry (s : State) : Host.Outcome State Fault Refusal :=
  .next (onHub (fun h =>
    if h.is SYS_MODE.watch_auto && h.idleLong then h.enterWatch else h) s)

/-- WATCH_WAKE (R370). -/
def execWatchWake (_cause : WatchCause) (s : State) : Host.Outcome State Fault Refusal := .next (onHub Hub.wake s)

/-- HOST_WAKE_ADDRESS (R514): the address is not acknowledged, and the hub wakes. -/
def execHostWakeAddress (s : State) : Host.Outcome State Fault Refusal :=
  .next (onHub (fun h => if h.power = .watch then (h.wr HOST_STATUS.wake_nack 1).wake else h) s)

/-- A role looks for a termination (R91, R98). -/
def looksFor (role : Nat) : Term → Bool
  | .rd => role != 1
  | .rp _ => role != 0
  | _ => false

/-- WATCH_DETECTION (R99): cc_debounce counts from the first of the two samples, 0.5 ms before. -/
def execWatchDetection (p : Fin 16) (lane : Lane) (t : Term) (s : State) : Host.Outcome State Fault Refusal :=
  .next (onPort p (fun h =>
    if h.power = .watch ∧ h.tc p = tcWatch ∧ looksFor (h.prd p PORT_CTRL.role) t then
      let h := h.wake.latchRoles p
      let h := h.mapPort p fun s =>
        { s with laneA := if lane = .a then t else .open_, laneB := if lane = .b then t else .open_ }
      let h := h.pwr p PORT_STATUS.partner_rp (rpLevelOf t)
      let h := h.start p .ccDebounce (h.prd p TC_TIMER1.cc_debounce * 1000 - 500)
      if isRp t then
        (h.setTc p tcAttachWaitSnk).start p .tryTimeout (h.prd p TC_TIMER2.try_timeout * 10000)
      else h.setTc p tcAttachWaitSrc
    else h) s)

/-! ### Ship mode -/

/-- VBUS stands above 4.0 V at a port (R372). -/
def Hub.vbusPresent (h : Hub) (p : Fin 16) : Bool :=
  !h.pis p PORT_STATUS.vsafe0 &&
    (h.pis p PORT_STATUS.vsafe5 || (h.port p).sinkVbus || h.pis p PASS_STATUS.cmd_on)

/-- ACZ has shown edges within 100 ms. -/
def Hub.aczActivity (h : Hub) : Bool :=
  h.straps.aczActive || (match h.sun.acz with | some e => decide (h.sun.clk - e.clk ≤ 30000000) | none => false)

/-- An enabled wake condition holds (R371). -/
def Hub.wakePresent (h : Hub) : Bool :=
  (h.is WAKE_CFG.wake_vbus && h.presentPorts.any h.vbusPresent) || (h.is WAKE_CFG.wake_acz && h.aczActivity) ||
    (h.is WAKE_CFG.wake_waken && h.straps.wakeLow)

/-- A write of ship_go (R371), stamped from its writer: ports drain, the hub leaves its rack, SHIP_ENTERED persists,
READY goes low. -/
def Hub.shipGo (r : Nat) (h : Hub) : Hub :=
  if h.wakePresent then h.wr SYS_MODE.mode_result 3
  else
    let h := h.wr SYS_MODE.mode_result 1
    let h := h.each h.presentPorts fun p h => (h.pwr p PORT_CTRL.enable 0).startDrain r p
    let h := if h.role = roleMember ∨ h.role = roleLost then h.enqueue .leave else h
    ((h.leaveRack r).event r { ev := .shipEntered }).wr SYS_STATUS.ready 0

/-- Entry to Ship mode is in progress (R371): READY is low after an accepted ship_go. -/
def Hub.shipping (h : Hub) : Bool :=
  h.rd SYS_STATUS.last_step == 13 && !h.is SYS_STATUS.ready && !h.is SYS_STATUS.basecamp && !h.restarting &&
    h.rd SYS_MODE.mode_result == 1

/-- Every port is OFF or dark. -/
def Hub.allDark (h : Hub) : Bool := h.presentPorts.all fun p => h.tc p == tcOff || h.tc p == tcDeadBattery

/-- VDD33 goes off at the end of the entry (R371): the ring has been written, and the enabled wake sources stay. -/
def Hub.enterShip (h : Hub) : Hub :=
  let h := h.each h.flashQueue Hub.writeRing
  let cfg := h.word 0x4
  { h.powerReset 0 with power := .ship }.setWord 0x4 cfg

/-- POWER_ON_RESET (R345, R346): the lockout engages or VDD33 fails; or an entry to Ship mode ends. -/
def execPowerOnReset (cause : ResetCause) (s : State) : Host.Outcome State Fault Refusal :=
  match cause with
  | .ship => .next (onHub (fun h => if h.shipping && h.allDark then h.enterShip else h) s)
  | _ => .next (applyHub (Hub.powerReset wakeCold) s)

/-- The wake source is enabled (R372). -/
def Hub.wakeEnabled (h : Hub) : ShipCause → Bool
  | .vbus ports => h.is WAKE_CFG.wake_vbus && ports.toNat &&& h.part.portMask != 0
  | .acz => h.is WAKE_CFG.wake_acz
  | .wakePin => h.is WAKE_CFG.wake_waken

/-- WAKE_CAUSE of a wake (R372). -/
def Hub.wakeWord (h : Hub) : ShipCause → Word
  | .vbus ports => maskWord ((ports.toNat &&& h.part.portMask) * 0x10000 + 1)
  | .acz => 2
  | .wakePin => 4

/-- SHIP_WAKE (R372): a power-on reset, which LOCKOUT_RELEASE ends. -/
def execShipWake (cause : ShipCause) (s : State) : Host.Outcome State Fault Refusal :=
  .next (if s.hub.power = .ship ∧ s.hub.wakeEnabled cause then
      applyHub (fun h => h.powerReset (h.wakeWord cause)) s
    else s)

end Sys2Proof.Machine
end

