-- ==== Sys2Proof/Machine/Flags.lean ====
section
/-! DEFINITION. Registers and status bits that a read computes: what software sees of state whose home is not a register
word, and which parts of an analogue reading are free values (log entry 14). -/

namespace Sys2Proof.Machine

open Sys2Proof.Reg

/-- The word with some fields set. -/
def putAll (fs : List (Bits × Nat)) (w : Word) : Word := fs.foldl (fun w f => f.1.put f.2 w) w

/-! ### The Hamper's registers (chapter 05) -/

/-- HAMPER_STATUS: full_mask is stored, the rest counts the ledger. -/
def Hub.hamperStatus (h : Hub) : Word :=
  putAll [ (HAMPER_STATUS.full.bits, (freeEntries h.es == 0).toNat),
           (HAMPER_STATUS.cut_active.bits, (allEntries.any fun i => h.es[i].overCut).toNat),
           (HAMPER_STATUS.live.bits, 64 - freeEntries h.es),
           (HAMPER_STATUS.waiting.bits, (allEntries.filter fun i => h.es[i].st == .waiting).length) ] (h.word 0x2001)

/-- HUB_OVERCUT: what the over_cut entries charge. -/
def Hub.overCutSum (h : Hub) : Nat := sumUnder h.es 20 fun e => if e.overCut then chargeC e else 0

/-- PORT_LEDGER: the port cap is stored, the offer is that of R210. -/
def Hub.portLedger (h : Hub) (p : Fin 16) : Word :=
  PORT_LEDGER.offer.bits.put (h.offer p) (h.word (portKey p 0x20))

/-- PORT_HELD. -/
def Hub.portHeld (h : Hub) (p : Fin 16) : Word :=
  putAll [ (PORT_HELD.pending.bits, portPower h.es p [.tentative, .waiting]),
           (PORT_HELD.committed.bits, portPower h.es p [.committed, .releasing]) ] 0

/-- The start that a port's registers show: that of its TENTATIVE entry before that of a restore (DESIGN CHOICE: the spec
gives one field and does not say which; log entry 35). -/
def Hub.shownStart (h : Hub) (p : Fin 16) : Option RampStart :=
  (h.ledger.ramps.find? fun r => r.port == p && r.kind != .c).or (h.ledger.ramps.find? fun r => r.port == p)

/-- PORT_HSTATE. -/
def Hub.portHstate (h : Hub) (p : Fin 16) : Word :=
  let c := portEntry h.es p [.committed]
  let ovf := match c with | some i => h.es[i].overCut | none => false
  let trimmed := match c with | some i => decide (h.es[i].power < h.prd p CONTRACT_PWR.power) | none => false
  let asked := match portEntry h.es p [.waiting] with | some i => h.es[i].prompted | none => false
  let ramp := match h.shownStart p with
    | some r => if r.override then 2 else 1
    | none => 0
  putAll [ (PORT_HSTATE.class_.bits, h.classOf p), (PORT_HSTATE.tool.bits, (h.isTool p).toNat),
           (PORT_HSTATE.over_cut.bits, ovf.toNat), (PORT_HSTATE.trimmed.bits, trimmed.toNat),
           (PORT_HSTATE.prompted.bits, asked.toNat), (PORT_HSTATE.ramp.bits, ramp),
           (PORT_HSTATE.shadow.bits, portPower h.es p [.shadow]) ] 0

/-- PORT_RAMP: the assigned start. -/
def Hub.portRamp (h : Hub) (p : Fin 16) : Word :=
  match h.shownStart p with
  | some r =>
    (match r.at_ with
      | .override => 0xFFFFFFFF
      | .pos c a => BitVec.ofNat 32 (c.toNat % 0x10000 * 0x10000 + a.toNat))
  | none => 0

/-! ### Stage and pass switch (chapters 07, 08) -/

/-- The state of the stage: RAMP ends when the slew does (R296). -/
def Hub.stageShown (h : Hub) (p : Fin 16) : Nat :=
  if h.stage p = stRamp ∧ h.vnow p = (h.port p).vsetEff then stRegulate else h.stage p

/-- STAGE_STATUS: state, sat and the legs' duties in 1/256, 1.0 as 0xFF (log entry 94). -/
def Hub.stageStatus (h : Hub) (p : Fin 16) : Word :=
  let d := h.legDuties p
  let code := fun (x : Int) => min 255 (x.toNat / 128)
  putAll [ (STAGE_STATUS.state.bits, h.stageShown p),
           (STAGE_STATUS.sat.bits, (h.switching p && (h.port p).loop.sat).toNat),
           (STAGE_STATUS.duty_a.bits, code d.1), (STAGE_STATUS.duty_b.bits, code d.2) ] (h.word (portKey p 0x2F))

/-- PASS_MEAS: both halves come from one protection conversion. -/
def Hub.passMeas (h : Hub) (p : Fin 16) : Word :=
  let x := (h.port p).pins
  (x.node - x.bus) ++ x.vgs

/-- PASS_ENERGY: the accumulator and its peak, in 0.1 mJ (R328). -/
def Hub.passEnergy (h : Hub) (p : Fin 16) : Word :=
  PASS_ENERGY.energy.bits.put (min 0xFFFF ((h.port p).soa / 10000000)) (h.word (portKey p 0x3E))

/-! ### Swaps and Bivouac mode (chapter 06) -/

/-- Place of a port in a list. -/
def placeOf (p : Fin 16) : List (Fin 16) → Nat → Option Nat
  | [], _ => none
  | q :: l, n => if q = p then some n else placeOf p l (n + 1)

/-- BIV_PORT: rank and eligibility hold at every moment (R255, R256). -/
def Hub.bivPort (h : Hub) (p : Fin 16) : Word :=
  putAll [ (BIV_PORT.rank.bits, (placeOf p h.eligiblePorts 0).getD 0xFF),
           (BIV_PORT.eligible.bits, (h.eligible p).toNat) ] (h.word (portKey p 0x26))

/-! ### Rack and host (chapters 14, 15) -/

/-- CONV_ROUND: the rounds of two cycles left to the next HELLO while REFUSED (R536). -/
def Hub.convRound (h : Hub) : Word :=
  let left := if h.role = roleRefused then 64 - (h.sun.cycle - h.rack.refusedAt).toNat / 2 else 0
  CONV_ROUND.retry.bits.put left (h.word 0x6009)

/-- CONV_RXSTAT: the oldest firmware message held (R551). -/
def Hub.convRxstat (h : Hub) : Word :=
  match h.rack.rx with
  | [] => 0
  | m :: l =>
    putAll [ (CONV_RXSTAT.valid.bits, 1), (CONV_RXSTAT.held2.bits, (!l.isEmpty).toNat),
             (CONV_RXSTAT.type_.bits, m.type_.toNat), (CONV_RXSTAT.sender.bits, m.sender),
             (CONV_RXSTAT.broadcast.bits, m.broadcast.toNat), (CONV_RXSTAT.count.bits, m.payload.length) ] 0

/-- A word of the payload of the oldest firmware message held. -/
def Hub.convRx (h : Hub) (n : Nat) : Word :=
  match h.rack.rx with
  | [] => 0
  | m :: _ => BitVec.ofNat 32 (wordAt m.payload (4 * n))

/-- CONV_STATUS: the controller sends or backs off while a frame waits; whether the bus is free is a free value. -/
def Hub.convStatus (h : Hub) (u : Word) : Word :=
  putAll [ (CONV_STATUS.ctrl_busy.bits, (h.backingOff && !h.rack.queue.isEmpty).toNat),
           (CONV_STATUS.bus_free.bits, u.toNat % 2) ] (h.word 0x6001)

/-- SEL_VIEW. -/
def Hub.selView (h : Hub) : Word :=
  let one := fun (m : Master) (fp fq : MField) =>
    [(fp.bits, h.mrd m PORT_SEL.port), (fq.bits, h.mrd m QUAD_SEL.quad)]
  putAll (one .supA SEL_VIEW.supa_port SEL_VIEW.supa_quad ++
    (if h.part.large then one .supB SEL_VIEW.supb_port SEL_VIEW.supb_quad else []) ++
    one .host SEL_VIEW.host_port SEL_VIEW.host_quad ++ one .denoc SEL_VIEW.denoc_port SEL_VIEW.denoc_quad ++
    one .debug SEL_VIEW.dbg_port SEL_VIEW.dbg_quad) 0

/-- FLASK_CFG: elapsed counts in 0.1 s (chapter 10). -/
def Hub.flaskCfg (h : Hub) : Word :=
  let t := if h.is ENG_STATUS.flask then min 0xFFFF ((h.sun.clk - h.flaskClk) / 30000000) else 0
  FLASK_CFG.elapsed.bits.put t (h.word 0x9005)

/-! ### What a read of a register shows -/

/-- A register that exists once; `u` gives the bits of an analogue reading. -/
def Hub.hubView (h : Hub) (k : Nat) (u : Word) : Word :=
  match k with
  | 0x1002 => BitVec.ofNat 32 (h.sun.cycle.toNat % 0x10000 * 0x10000 + h.sun.angle.toNat)
  | 0x1003 => h.sun.cycle
  | 0x1009 => SUN_COUNT.epoch.bits.put (h.rd LOG_HEADER.epoch) (h.word 0x1009)
  | 0x2001 => h.hamperStatus
  | 0x2005 => BitVec.ofNat 32 h.hubLimit
  | 0x2006 => BitVec.ofNat 32 h.ledger.totals[20].committed
  | 0x2007 => BitVec.ofNat 32 h.ledger.totals[20].tentative
  | 0x2008 => BitVec.ofNat 32 h.ledger.totals[20].standby
  | 0x2009 => BitVec.ofNat 32 h.overCutSum
  | 0x2010 => BitVec.ofNat 32 (h.ledger.totals[16].tentative * 0x10000 + h.ledger.totals[16].committed)
  | 0x2011 => BitVec.ofNat 32 (h.ledger.totals[17].tentative * 0x10000 + h.ledger.totals[17].committed)
  | 0x2012 => BitVec.ofNat 32 (h.ledger.totals[18].tentative * 0x10000 + h.ledger.totals[18].committed)
  | 0x2013 => BitVec.ofNat 32 (h.ledger.totals[19].tentative * 0x10000 + h.ledger.totals[19].committed)
  | 0x300C => FAULT_PIN.pin_low.bits.put h.faultPinLow.toNat (h.word 0x300C)
  | 0x400A => CHK_STATUS.owner 0 |>.bits.put (h.holdsChan 0).toNat (h.word 0x400A)
  | 0x404A => CHK_STATUS.owner 1 |>.bits.put (h.holdsChan 1).toNat (h.word 0x404A)
  | 0x5001 => HOST_STATUS.asleep.bits.put (h.power == .watch).toNat (h.word 0x5001)
  | 0x6001 => h.convStatus u
  | 0x6009 => h.convRound
  | 0x6038 => h.convRxstat
  | 0x9005 => h.flaskCfg
  | 0xA000 => LOG_HEADER.held.bits.put h.logRing.length (h.word 0xA000)
  | 0xA00D => LOG_RING.queued.bits.put h.flashQueue.length (h.word 0xA00D)
  | k => if 0x6030 ≤ k ∧ k < 0x6038 then h.convRx (k - 0x6030) else h.word k

/-- A register of a PORT window. -/
def Hub.portView (h : Hub) (p : Fin 16) (w : Nat) : Word :=
  match w with
  | 0x19 => h.battWord p
  | 0x20 => h.portLedger p
  | 0x21 => h.portHeld p
  | 0x22 => h.portHstate p
  | 0x23 => h.portRamp p
  | 0x26 => h.bivPort p
  | 0x2A => STAGE_VSET.vnow.bits.put (h.vnow p) (h.word (portKey p 0x2A))
  | 0x2F => h.stageStatus p
  | 0x3A => PASS_LIMIT.limit_eff.bits.put (h.limitEff p) (h.word (portKey p 0x3A))
  | 0x3D => h.passMeas p
  | 0x3E => h.passEnergy p
  | w => h.word (portKey p w)

/-- A register that exists once per master; bridges and debug read supervisor A's AUX_RESULT (R227); a port engine's
selects show its own port and quad (R45). -/
def Hub.masterView (h : Hub) (m : Master) (w : Nat) : Word :=
  match w, m with
  | 0xF000, .pe p => BitVec.ofNat 32 p.val
  | 0xF001, .pe p => BitVec.ofNat 32 (p.val / 4)
  | 0xF004, _ => h.selView
  | 0x201A, .supB => h.word (masterKey .supB 0x201A)
  | 0x201A, _ => h.word (masterKey .supA 0x201A)
  | w, m => h.word (masterKey m w)

/-- A register of a claim interface. -/
def Hub.claimView (h : Hub) (p : Fin 16) (w : Nat) : Word :=
  match w with
  | 0x5 => BitVec.ofNat 32 ((h.port p).ringFirst.val * 0x100 + (h.port p).ringCount)
  | w => h.word (claimKey p w)

/-! ### Interrupt lines (R442) -/

/-- Lines whose condition the spec does not state: the Host, Denoc, Convoy and Logbook lines (log entry 14). -/
def freeLines : Nat := 0x146

/-- The lines that R386 gives to the primary supervisor only: Fault Collector, Host, Denoc. -/
def primaryLines : Nat := 0x007

/-- The lines of a supervisor, but for TIME_CMP; `u` gives those of no stated condition. -/
def Hub.supLines (h : Hub) (b : Bool) (u : Word) : Nat :=
  let lines := u.toNat &&& freeLines
  let m : Master := if b then .supB else .supA
  let slots := if b then h.sun.irqB else h.sun.irqA
  let hamper := (h.pairBit 0x201B 31 && h.is HAMPER_CTRL.irq_audit) ||
    (freeEntries h.es == 0 && h.is HAMPER_CTRL.irq_full) || h.mrd m AUX_RESULT.aux_lost == 1
  let check := fun (c : Fin 2) => h.is (CHK_STATUS.done c) && h.is (CHK_CTRL.irq_en c)
  let lines := lines + h.faultIrq.toNat + (slots != 0).toNat * 8 + hamper.toNat * 16 +
    (h.takeover.getLsbD b.toNat).toNat * 32 + (check 0 || check 1).toNat * 128
  if h.rd ENG_STATUS.primary = b.toNat then lines else lines &&& (0x3FF - primaryLines)

/-- The lines of a port engine, but for TIME_CMP. -/
def Hub.peLines (h : Hub) (p : Fin 16) : Nat := (h.word (claimKey p 0x3)).toNat % 64

end Sys2Proof.Machine
end

