-- ==== Sys2Proof/Machine/BusAccess.lean ====
section
/-! DEFINITION. Accesses by masters (R14, R15, R42–R46, R377–R380, R399, R400, R578–R587): where an address leads, who may
write, which codes are legal, and what a read or a write of a register does. -/

namespace Sys2Proof.Machine

open Sys2Proof.Reg

/-- Where an address leads a master. -/
inductive Target where
  /-- A register that exists once, by its key. -/
  | hub (k : Nat)
  /-- A register that exists once per master. -/
  | own (w : Nat)
  /-- A register of a port's window. -/
  | port (p : Fin 16) (w : Nat)
  /-- A register of a quad's window. -/
  | quad (q : Fin 4) (w : Nat)
  /-- A word of a port engine's claim interface. -/
  | claim (p : Fin 16) (w : Nat)
  /-- A control register in the core-private space of a supervisor (R441). -/
  | priv (n : Nat)
  /-- An offset that no chapter names (R581). -/
  | blank
  /-- An absent unit (R2, R586). -/
  | absent
  /-- A byte of memory, at its address in the supervisor view. -/
  | memory (a : Nat)
  /-- No address of the master's view (R46, R377, R399). -/
  | busError
  deriving DecidableEq, Repr

/-- A word of a block of registers that exists in every view. -/
def Hub.hubTarget (h : Hub) (k : Nat) : Target :=
  if (findRow masterRows k).isSome then .own k
  else if 0x200C ≤ k ∧ k < 0x2010 ∧ h.part.quads ≤ k - 0x200C then .absent
  else if (findRow hubRows k).isSome then .hub k
  else .blank

/-- A word of a master's PORT window. -/
def Hub.portTarget (h : Hub) (p : Fin 16) (w : Nat) : Target :=
  if !h.present p then .absent else if (findRow portPortRows w).isSome then .port p w else .blank

/-- A word of a master's QUAD window. -/
def Hub.quadTarget (h : Hub) (q : Fin 4) (w : Nat) : Target :=
  if h.part.quads ≤ q.val then .absent else if (findRow quadQuadRows w).isSome then .quad q w else .blank

/-- The port that a master's PORT window shows (R42, R45). -/
def Hub.portSel (h : Hub) (m : Master) : Fin 16 :=
  match m with
  | .pe p => p
  | m => ⟨h.mrd m PORT_SEL.port % 16, by omega⟩

/-- The quad that a master's QUAD window shows. -/
def Hub.quadSel (h : Hub) (m : Master) : Fin 4 :=
  match m with
  | .pe p => Hub.quadOf p
  | m => ⟨h.mrd m QUAD_SEL.quad % 4, by omega⟩

/-- Where an address leads a port engine's load or store (R46, R377, R378). -/
def Hub.locatePe (h : Hub) (p : Fin 16) (a : Nat) : Target :=
  if 0x10000000 ≤ a ∧ a < 0x10004000 then .memory (0x21004000 + 0x8000 * p.val + (a - 0x10000000))
  else if 0x41000000 ≤ a ∧ a < 0x41001000 then h.portTarget p ((a - 0x41000000) / 4)
  else if 0x4000F000 ≤ a ∧ a < 0x4000F008 then .own (0xF000 + (a - 0x4000F000) / 4)
  else if 0x42000000 ≤ a ∧ a < 0x42000100 then
    (if (findRow claimClaimRows ((a - 0x42000000) / 4)).isSome then .claim p ((a - 0x42000000) / 4) else .blank)
  else .busError

/-- Where an address leads every other master (R399). -/
def Hub.locateSup (h : Hub) (m : Master) (a : Nat) : Target :=
  if a < 0x10000 ∨ (0x08000000 ≤ a ∧ a < 0x08200000) ∨ (0x20000000 ≤ a ∧ a < 0x20040000) ∨
      (0x22000000 ≤ a ∧ a < 0x22004000) ∨ (0x23000000 ≤ a ∧ a < 0x23002000) then .memory a
  else if 0x21000000 ≤ a ∧ a < 0x21080000 then
    (if (a - 0x21000000) / 0x8000 < h.part.ports then .memory a else .absent)
  else if 0x4000B000 ≤ a ∧ a < 0x4000C000 then h.quadTarget (h.quadSel m) ((a - 0x4000B000) / 4)
  else if (0x40000000 ≤ a ∧ a < 0x4000B000) ∨ (0x4000F000 ≤ a ∧ a < 0x40010000) then
    h.hubTarget ((a - 0x40000000) / 0x1000 * 0x1000 + a % 0x1000 / 4)
  else if 0x41000000 ≤ a ∧ a < 0x41001000 then h.portTarget (h.portSel m) ((a - 0x41000000) / 4)
  else if 0xE0000000 ≤ a ∧ a < 0xE0010000 ∧ (m = .supA ∨ m = .supB) then
    (if (a - 0xE0000000) / 4 < 16 then .priv ((a - 0xE0000000) / 4) else .blank)
  else .busError

/-- Where an address leads a master. -/
def Hub.locate (h : Hub) (m : Master) (a : Word) : Target :=
  match m with
  | .pe p => h.locatePe p a.toNat
  | m => h.locateSup m a.toNat

/-- Where an access of some width leads: register space takes aligned words only (R14, R15), and no access crosses its
own alignment. -/
def Hub.locateWide (h : Hub) (m : Master) (a : Word) (n : Nat) : Target :=
  if a.toNat % n ≠ 0 then .busError
  else
    match h.locate m a with
    | .memory b => .memory b
    | t => if n = 4 then t else .busError

/-- A bus error, or an access to an absent unit: source 27 latches (R3, R15, R586). -/
def Hub.badAccess (m : Master) (kind : Nat) (a : Word) (h : Hub) : Hub := h.latch 27 ⟨masterId m, kind, a⟩

/-- The master makes accesses: present, running, and the hub in Run mode (R1, R370, R383, R395). -/
def Hub.issues (h : Hub) (m : Master) : Bool :=
  h.power == .run &&
    (match m with
      | .pe p => h.present p && !h.peHalted p && !h.is SYS_STATUS.basecamp
      | .supA => h.sup false != supOff && h.sup false != supHalted
      | .supB => h.part.large && h.sup true != supOff && h.sup true != supHalted
      | _ => true)

/-! ### Reads -/

/-- An answer to an access: the hub after it, the data, whether it is poisoned, whether the access failed. -/
structure Answer where
  hub : Hub
  data : Word
  poison : Bool
  err : Bool

/-- A plain answer. -/
def answerOf (h : Hub) (w : Word) : Answer := ⟨h, w, false, false⟩

/-- The RC bits of a register clear with the read (R16, R18). -/
def Hub.clearRc (key : Nat) (row : Option RegRow) (h : Hub) : Hub :=
  match row with
  | some r => if r.rc = 0 then h else h.setWord key (h.word key &&& ~~~maskWord r.rc)
  | none => h

/-- Read a register that exists once (R16, R88; log entry 14). -/
def Hub.readHub (m : Master) (k : Nat) (h : Hub) : Answer :=
  let h := if 0x4000 ≤ k ∧ k < 0x4040 then h.scanOn 0 else if 0x4040 ≤ k ∧ k < 0x4080 then h.scanOn 1 else h
  let (u, h) := if k = 0x6001 then h.takeFree else (0, h)
  let v := h.hubView k u
  let h := if k = 0x1003 then h.mwr m SUN_SNAP.angle h.sun.angle.toNat else h
  answerOf (h.clearRc k (findRow hubRows k)) v

/-- Read a register of a port (R286). -/
def Hub.readPort (m : Master) (p : Fin 16) (w : Nat) (h : Hub) : Answer :=
  match w with
  | 0x30 => answerOf (h.setWord (telemKey m p) (h.word (portKey p 0x31))) (h.word (portKey p 0x30))
  | 0x31 => answerOf h (h.word (telemKey m p))
  | w => answerOf (h.clearRc (portKey p w) (findRow portPortRows w)) (h.portView p w)

/-- Read a register that exists once per master (R42, R88, R227, R477). -/
def Hub.readOwn (m : Master) (w : Nat) (h : Hub) : Answer :=
  let h := if w = 0xA004 then h.popLog m else h
  answerOf h (h.masterView m w)

/-- Read memory (R402, R403, R406). -/
def Hub.readMem (m : Master) (kind a n : Nat) (h : Hub) : Answer :=
  let r := h.readWord a (masterId m) kind
  ⟨r.1, BitVec.ofNat 32 (r.1.memNat a n), r.2, false⟩

/-- Read what an address leads to; core-private registers are read where the engine is at hand. -/
def Hub.readTarget (m : Master) (t : Target) (a : Word) (n : Nat) (h : Hub) : Answer :=
  match t with
  | .hub k => h.readHub m k
  | .own w => h.readOwn m w
  | .port p w => h.readPort m p w
  | .quad q w => answerOf (h.clearRc (quadKey q w) (findRow quadQuadRows w)) (h.word (quadKey q w))
  | .claim p w => answerOf h (h.claimView p w)
  | .priv _ => answerOf h 0
  | .blank => answerOf h 0
  | .absent => answerOf (h.badAccess m 0 a) 0
  | .memory b => h.readMem m 0 b n
  | .busError => ⟨h.badAccess m 0 a, 0, false, true⟩

/-! ### Which writes are judged how (R398, R465, R497, R532, R582–R587) -/

/-- A bridge. -/
def isBridge : Master → Bool
  | .host | .denoc => true
  | _ => false

/-- The master may write the register at all. -/
def mayWrite (m : Master) (k : Nat) : Bool :=
  if 0x3000 ≤ k ∧ k < 0x4000 then !isBridge m || decide (k ≤ 0x3003)
  else if 0x5000 ≤ k ∧ k < 0xA000 then !isBridge m
  else if k = 0x2019 ∨ k = 0xA00C then m = .supA || m = .supB
  else true

/-- The channel of a register of the Check Unit. -/
def chanOf (k : Nat) : Option (Fin 2) :=
  if 0x4000 ≤ k ∧ k < 0x4040 then some 0 else if 0x4040 ≤ k ∧ k < 0x4080 then some 1 else none

/-- A bit of a written word. -/
def bitOf (v : Word) (n : Nat) : Bool := v.getLsbD n

/-- The write of CHK_CTRL is legal (R486–R488, R496). -/
def Hub.chkCtrlLegal (h : Hub) (c : Fin 2) (v : Word) : Bool :=
  let feed := bitOf v 7
  (!bitOf v 1 || (bitOf v 0 && !h.scanning c &&
      (feed || h.scanLegal (h.rd (CHK_START.start c)) (h.rd (CHK_LEN.len c))))) &&
    (!bitOf v 2 || (feed && (h.chan c).feedOpen))

/-- The write of a register of the Check Unit is legal now (R487, R496). -/
def Hub.chkLegal (h : Hub) (c : Fin 2) (k : Nat) (v : Word) : Bool :=
  match k % 0x40 with
  | 0 => h.chkCtrlLegal c v
  | 1 | 2 | 3 | 4 | 5 | 6 | 8 => !h.scanning c && !(h.chan c).feedOpen
  | 7 => !h.scanning c && !(h.chan c).feedOpen &&
      decide ((CHK_ALIVE.offset c).bits.get v < (CHK_ALIVE.stride c).bits.get v)
  | _ => true

/-- The entry is an AUX entry. -/
def Hub.isAux (h : Hub) (i : Nat) : Bool :=
  if hi : i < 64 then h.es[(⟨i, hi⟩ : Fin 64)].st != .free && h.es[(⟨i, hi⟩ : Fin 64)].kind == .aux else false

/-- The absent sources whose force bits a word sets (R464). -/
def Hub.forceLegal (h : Hub) (hi : Bool) (v : Word) : Bool :=
  (List.range 32).all fun n => !bitOf v n || !h.part.absentSource (n + if hi then 32 else 0)

/-- The write of ENG_CTRL is legal now (R388). -/
def Hub.engCtrlLegal (h : Hub) (v : Word) : Bool :=
  (!bitOf v 4 || h.sup false == supHalted) && (!bitOf v 5 || (h.part.large && h.sup true == supHalted)) &&
    (!bitOf v 1 || h.part.large)

/-- Codes of a register that exists once which are reserved only in some state or on some part (R584). -/
def Hub.hubLegal (h : Hub) (m : Master) (k : Nat) (v : Word) : Bool :=
  match k with
  | 0x3 => !(bitOf v 0 && bitOf v 1) && (!bitOf v 1 || SYS_MODE.key.bits.get v == 0xA5)
  | 0x4 => v.toNat % 8 != 0
  | 0x80 => !bitOf v 0 || h.part.large
  | 0x2018 => decide (v.toNat % 16 < h.part.ports)
  | 0x2019 => !bitOf v 31 || h.isAux (v.toNat / 0x10000 % 64)
  | 0x3004 => h.forceLegal false v
  | 0x3005 => h.forceLegal true v
  | 0x3008 => h.part.sevWordLegal 0 v
  | 0x3009 => h.part.sevWordLegal 1 v
  | 0x300A => h.part.sevWordLegal 2 v
  | 0x300B => h.part.sevWordLegal 3 v
  | 0x6028 => !h.is CONV_TXCTRL.busy
  | 0x8004 => !(bitOf v 31 && bitOf v 30)
  | 0x8005 => (!bitOf v 1 || (h.is SYS_STATUS.warm && h.is SYS_STATUS.ready)) && !(bitOf v 0 && m == .supB)
  | 0x8008 => 0x08000000 ≤ v.toNat && v.toNat ≤ 0x081FFFF8 && v.toNat % 8 == 0
  | 0x800B => !h.is FLASH_CMD.flash_busy
  | 0x9000 => h.engCtrlLegal v
  | 0x9004 => if h.part.large then 0x20000000 ≤ v.toNat && v.toNat < 0x20040000 && v.toNat % 4 == 0 else v == 0
  | 0x9008 => v.toNat % 0x10000 &&& (0xFFFF - h.part.portMask) == 0
  | 0x9016 => h.mayZero (word64 v.toNat)
  | 0xA003 => v.toNat / 0x400 % 0x20 == 0
  | k => match chanOf k with | some c => h.chkLegal c k v | none => true

/-- The codes that a row gives for every state; a field of supervisor B takes only 0 where B is absent (chapter 10). -/
def Hub.rowLegal (h : Hub) (r : RegRow) (k : Nat) (v : Word) : Bool :=
  if k = 0x9002 ∧ !h.part.large then 1 ≤ v.toNat % 256 && v.toNat % 256 ≤ 100 && v.toNat / 256 % 256 == 0
  else r.legalValue v

/-- The stage is of a kind that a mode of STAGE_CTRL drives, and DSx may be tested (chapter 07, STAGE_CTRL). -/
def Hub.stageCtrlLegal (h : Hub) (p : Fin 16) (v : Word) : Bool :=
  let mode := v.toNat % 4
  Sys2Proof.Machine.forceLegal (h.prd p STAGE_CFG.topology) (STAGE_CTRL.force_set.bits.get v) &&
    !(mode == 2 && h.prd p STAGE_CFG.topology == 3) &&
    !(bitOf v 9 && (mode != 0 || h.prd p STAGE_CTRL.mode != 0 || h.commanded p))

/-- A set-point is one that the stage and the part can give (chapter 07, STAGE_VSET). -/
def Hub.vsetLegal (h : Hub) (p : Fin 16) (v : Nat) : Bool :=
  (h.part.large || decide (v ≤ 2100)) &&
    (h.prd p STAGE_CFG.topology != 3 || v == 0 || v == h.card.ports[p].fixedV)

/-- Codes of a port's register which are reserved only in some state or on some part. -/
def Hub.portLegal (h : Hub) (p : Fin 16) (w : Nat) (v : Word) : Bool :=
  match w with
  | 0x6 => v.toNat % 4 != 1 || (h.part.large && h.card.ports[p].bc12)
  | 0x10 => !bitOf v 2 || h.part.large
  | 0x29 => h.stageCtrlLegal p v
  | 0x2A => h.vsetLegal p (v.toNat % 0x10000)
  | _ => true

/-- Codes of a claim interface which are reserved only in some state (chapter 17). A claim is answered within the command
that makes it, so none is ever without its answer. -/
def Hub.claimLegal (h : Hub) (p : Fin 16) (w : Nat) (v : Word) : Bool :=
  match w with
  | 0x0 =>
    let op := PE_CLAIM.op.bits.get v
    let accepted := match portEntry h.es p [.tentative] with | some i => h.es[i].accepted | none => false
    let spec := allEntries.any fun i => h.es[i].ofPort p && h.es[i].spec
    (op == 2 || !bitOf v 28) && (op != 4 || spec) && (!(op == 1 || op == 2) || !accepted)
  | 0x2 => PE_HANDOVER.kind.bits.get v == 0 || (portEntry h.es p [.tentative]).isSome
  | 0x6 => !bitOf v 0 || (h.port p).ringCount != 0
  | 0x7 => !((h.port p).txSlots.any fun s => s.val == v.toNat % 8)
  | 0x8 => h.restarting && v == h.fw.stampSeq
  | _ => true

/-! ### Rejection (R583) -/

/-- The host register index of a target, 0xFFFF for SELECT and the claim interface. -/
def Target.index : Target → Nat
  | .hub k => k
  | .own w => if 0xF000 ≤ w then 0xFFFF else w
  | .port _ w => 0xE000 + w
  | .quad _ w => 0xB000 + w
  | _ => 0xFFFF

/-- The port field of REJECT_INFO. -/
def Target.portField : Target → Nat
  | .port p _ => p.val
  | .claim p _ => p.val
  | _ => 0

/-- A write is rejected: recorded, and source 28 latches. -/
def Hub.reject (m : Master) (t : Target) (a : Word) (h : Hub) : Hub :=
  let h := h.setWord 0xC0 a
  let h := (h.wr REJECT_INFO.index t.index).wr REJECT_INFO.master (masterId m)
  let h := (h.wr REJECT_INFO.port t.portField).bump REJECT_INFO.count
  h.latch 28 ⟨masterId m, 1, a⟩

/-! ### What a legal write does -/

/-- The RW bits take the value, and the W1C bits written 1 clear. -/
def Hub.storeReg (key : Nat) (r : RegRow) (v : Word) (h : Hub) : Hub :=
  h.setWord key (r.store (h.word key) v &&& ~~~(v &&& maskWord r.w1c))

/-- Store the RW bits of a mask only. -/
def Hub.storeBits (key mask : Nat) (v : Word) (h : Hub) : Hub :=
  h.setWord key ((h.word key &&& ~~~maskWord mask) ||| (v &&& maskWord mask))

/-- A ramp position is given anew unless starts are assigned to it (RAMP_CFG). -/
def Hub.moveRampSlot (n after : Nat) (h : Hub) : Hub :=
  if h.slotBusy n && (h.taken (h.slotTick n)).isEmpty then h.setRampSlot n after else h

/-- RAMP_CFG has a new ramp_angle: it applies from the next position without starts. -/
def Hub.rampAngleChanged (h : Hub) : Hub :=
  let first := if h.slotTick 1 < h.slotTick 0 then 1 else 0
  let h := h.moveRampSlot first h.nowTick
  h.moveRampSlot (1 - first) (h.slotTick first)

/-- RAMP_CFG has a new per_half: the positions before the next one without starts keep the value they had (RAMP_CFG). -/
def Hub.perHalfChanged (old : Nat) (h : Hub) : Hub :=
  match (h.positions (h.nowTick + 1) (h.nowTick + 40 * 0x8000) 64).find? fun t => (h.taken t).isEmpty with
  | some t => { h with ledger := { h.ledger with oldHalf := some (old, t) } }
  | none => h

/-- A write of RAMP_CFG (R226). -/
def Hub.writeRampCfg (r : RegRow) (v : Word) (h : Hub) : Hub :=
  let was := h.word 0x2016
  let half := h.perHalf (h.nowTick + 1)
  let h := h.storeReg 0x2016 r v
  let h := if RAMP_CFG.per_half.bits.get was = RAMP_CFG.per_half.bits.get v then h else h.perHalfChanged half
  if RAMP_CFG.ramp_angle.bits.get was = RAMP_CFG.ramp_angle.bits.get v then h else h.rampAngleChanged

/-- A write of CHK_CTRL (R486, R487, R495). -/
def Hub.writeChkCtrl (c : Fin 2) (r : RegRow) (v : Word) (h : Hub) : Hub :=
  let h := h.storeReg (0x4000 + 0x40 * c.val) r v
  let h := if bitOf v 2 then h.endPass c true else h
  let h := if h.scanning c && !bitOf v 0 then h.drainScan c else h
  if bitOf v 1 then h.goCheck c else h

/-- A write of CHK_FEED or CHK_FEED_B (R486, R496): discarded with source 28 in SCAN mode or with enable 0. -/
def Hub.writeFeed (m : Master) (c : Fin 2) (bs : List Byte) (a : Word) (h : Hub) : Hub :=
  if h.is (CHK_CTRL.mode c) && h.is (CHK_CTRL.enable c) then h.feedCheck c bs
  else h.latch 28 ⟨masterId m, 1, a⟩

/-- A write of ENG_CTRL (R383, R388, R395). -/
def Hub.writeEngCtrl (v : Word) (h : Hub) : Hub :=
  let h := h.wr ENG_CTRL.flask_restart (bitOf v 8).toNat
  let h := (h.writeRun false (bitOf v 0)).writeRun true (bitOf v 1)
  let h := if bitOf v 4 then h.restartSup false else h
  if bitOf v 5 then h.restartSup true else h

/-- A write of CONV_LINK (R531, R533). -/
def Hub.writeLink (r : Nat) (v : Word) (h : Hub) : Hub :=
  let was := h.is CONV_LINK.link_en
  let h := h.storeBits 0x6000 0x10F v
  if was && !bitOf v 8 then h.linkDown r
  else if !was && bitOf v 8 && h.is SYS_STATUS.ready then h.listen
  else h

/-- A write of SYS_MODE (R369, R371). -/
def Hub.writeSysMode (r : Nat) (v : Word) (h : Hub) : Hub :=
  let h := h.storeBits 0x3 0x10 v
  let h := if bitOf v 0 then h.enterWatch else h
  if bitOf v 1 then h.shipGo r else h

/-- A write of BIVOUAC_CTRL (R252, R254, R269). -/
def Hub.writeBivouac (r : Nat) (v : Word) (h : Hub) : Hub :=
  let h := h.storeBits 0x80 0x3 v
  let h := if bitOf v 2 then h.vhubTrigger r else h
  if bitOf v 3 && h.islanded then h.startReturn r else h

/-- A write of FW_CTRL (R563, R571): ready_ok counts from supervisor A. -/
def Hub.writeFwCtrl (m : Master) (v : Word) (h : Hub) : Hub :=
  let h := if bitOf v 0 && m == .supA then h.takeReadyOk else h
  if bitOf v 1 then h.commitFuses (masterRequester m) else h

/-- A change of a limit is an event of its writer (R185, R627). -/
def Hub.writeLimit (r n : Nat) (f : Hub → Hub) (h : Hub) : Hub :=
  let h := h.stamp r
  let old := h.nodeLimit n
  (f h).limitChanged n old

/-- A legal write of a register that exists once. -/
def Hub.actHub (m : Master) (k : Nat) (row : RegRow) (a v : Word) (h : Hub) : Hub :=
  let r := masterRequester m
  let plain := h.storeReg k row v
  match k with
  | 0x3 => h.writeSysMode r v
  | 0xB => if bitOf v 0 then h.eraseCard (bitOf v 1) else h
  | 0x80 => h.writeBivouac r v
  | 0x1006 =>
    if plain.rd SUN_STATUS.active = 2 ∨ (!plain.is SUN_STATUS.locked && !plain.is SUN_STATUS.holdover) then
      plain.wr SUN_FREQ.freq (plain.rd SUN_FREE_FREQ.free_freq)
    else plain
  | 0x1012 => h.slotCancel m ⟨v.toNat % 32, by omega⟩
  | 0x1015 =>
    let keep := ~~~(v &&& maskWord row.w1c)
    { plain with sun := { plain.sun with irqA := plain.sun.irqA &&& keep, irqB := plain.sun.irqB &&& keep } }
  | 0x2003 => h.writeLimit r 20 fun h => h.storeReg k row v
  | 0x200C | 0x200D | 0x200E | 0x200F => h.writeLimit r (16 + (k - 0x200C)) fun h => h.storeReg k row v
  | 0x2016 => h.writeRampCfg row v
  | 0x2017 =>
    if AUDIT_CFG.audit_angle.bits.get (h.word k) = AUDIT_CFG.audit_angle.bits.get v then plain
    else if plain.slotBusy 2 then plain.setAuditSlot plain.nowTick
    else plain
  | 0x2018 => if bitOf v 4 then (h.stamp r).veto ⟨v.toNat % 16, by omega⟩ else h
  | 0x2019 =>
    if bitOf v 31 then h.auxRelease m ⟨v.toNat / 0x10000 % 64, by omega⟩
    else h.auxClaim m (v.toNat % 0x10000) ⟨masterId m, 3, a⟩
  | 0x3000 => h.clearStatus false v
  | 0x3001 => h.clearStatus true v
  | 0x3002 => h.clearNew false v
  | 0x3003 => h.clearNew true v
  | 0x3004 => h.forceSources m false v
  | 0x3005 => h.forceSources m true v
  | 0x3008 | 0x3009 | 0x300A | 0x300B => h.writeSev (k - 0x3008) v
  | 0x4000 => h.writeChkCtrl 0 row v
  | 0x4040 => h.writeChkCtrl 1 row v
  | 0x400D => h.writeFeed m 0 (leBytes 4 v.toNat) a
  | 0x404D => h.writeFeed m 1 (leBytes 4 v.toNat) a
  | 0x400E => h.writeFeed m 0 (leBytes 1 v.toNat) a
  | 0x404E => h.writeFeed m 1 (leBytes 1 v.toNat) a
  | 0x6000 => h.writeLink (masterRequester m) v
  | 0x6028 => if bitOf v 31 then plain.sendFirmware else plain
  | 0x6038 => if bitOf v 31 then h.releaseRx else h
  | 0x8004 =>
    if bitOf v 31 then plain.actGo r else if bitOf v 30 then plain.actCancel r else plain
  | 0x8005 => h.writeFwCtrl m v
  | 0x800B => match v.toNat % 4 with | 1 => h.flashOp false | 2 => h.flashOp true | _ => h
  | 0x9000 => h.writeEngCtrl v
  | 0x9003 => match m with | .supA => h.kickSup false | .supB => h.kickSup true | _ => h
  | 0x9008 => h.writePeRun (v.toNat % 0x10000)
  | 0x9016 => h.zeroWord (word64 v.toNat)
  | 0xA00C => h.writeLog m v
  | _ => plain

/-- A write of PORT_CTRL (R41, R124, R125, R627). -/
def Hub.writePortCtrl (r : Nat) (p : Fin 16) (v : Word) (h : Hub) : Hub :=
  let was := h.pis p PORT_CTRL.enable
  let h := h.storeBits (portKey p 0x0) 0x7D v
  let h := if bitOf v 7 then (h.stamp r).safeNow p else h
  if was && !bitOf v 0 then h.startDrain r p else if !was && bitOf v 0 then h.tryLeaveRest p else h

/-- A write of SWAP_CTRL by requester `r` (R228–R230, R245): disarming frees the STANDBY entry, as an event (R192). -/
def Hub.writeSwapCtrl (r : Nat) (p : Fin 16) (v : Word) (h : Hub) : Hub :=
  let h := h.storeBits (portKey p 0x24) 0xFFC0 v
  let h := if bitOf v 13 then h.armFrs p else if h.pis p SWAP_STATUS.frs_armed then (h.stamp r).disarmFrs p else h
  match v.toNat % 16 with
  | 1 => h.swapGo p .pr
  | 2 => h.swapGo p .dr
  | 3 => h.swapGo p .vconn
  | _ => h

/-- dis_test takes a new value (R313): DSx follows it, but a port that discharges keeps it. -/
def Hub.writeDisTest (p : Fin 16) (on : Bool) (h : Hub) : Hub := (h.pwr p STAGE_CTRL.dis_test on.toNat).showDs p

/-- mode takes a value (R276, R295, R309, R315); without effect while a PORT_SAFE fault remains latched (R316), and until
READY, while the outputs are low (R354). -/
def Hub.writeMode (p : Fin 16) (mode : Nat) (h : Hub) : Hub :=
  if h.heldSafe p ∨ h.tc p = tcDeadBattery then h
  else
    match mode with
    | 1 => h.stageForward p
    | 2 => if h.prd p STAGE_CTRL.mode = 2 then h else h.stageReverse p
    | _ => if h.stage p = stFrsArmed then h.dropRaises p else h.stageOff p

/-- frs_arm takes a value (R311): an idle stage is armed; not until READY (R354). -/
def Hub.writeFrsArm (p : Fin 16) (on : Bool) (h : Hub) : Hub :=
  if h.tc p = tcDeadBattery then h
  else if on then h.armStage p
  else
    let h := h.pwr p STAGE_CTRL.frs_arm 0
    if h.stage p = stFrsArmed then h.setStage p stOff else h

/-- A write of STAGE_CTRL. -/
def Hub.writeStageCtrl (p : Fin 16) (v : Word) (h : Hub) : Hub :=
  let h := (h.storeBits (portKey p 0x29) 0xD30 v).retune p
  ((h.writeDisTest p (bitOf v 9)).writeMode p (v.toNat % 4)).writeFrsArm p (bitOf v 3)

/-- A write of PASS_CTRL (R320, R325, R336, R339). -/
def Hub.writePassCtrl (r : Nat) (p : Fin 16) (v : Word) (h : Hub) : Hub :=
  let h := (h.storeBits (portKey p 0x38) 0x42 v).writePassEn r p (bitOf v 0)
  if bitOf v 7 then h.leakGo p else h

/-- A write of COEFn_V is staged; COEFn_I makes both take effect (R290). -/
def Hub.writeCoef (p : Fin 16) (n : Fin 3) (second : Bool) (v : Word) (h : Hub) : Hub :=
  if second then
    let h := h.setWord (portKey p (0x33 + 2 * n.val)) v
    let h := match (h.port p).coefStaged[n] with
      | some x => h.setWord (portKey p (0x32 + 2 * n.val)) x
      | none => h
    h.mapPort p fun s => { s with coefStaged := s.coefStaged.set n none }
  else h.mapPort p fun s => { s with coefStaged := s.coefStaged.set n (some v) }

/-- A legal write of a port's register. -/
def Hub.actPort (m : Master) (p : Fin 16) (w : Nat) (row : RegRow) (v : Word) (h : Hub) : Hub :=
  let r := masterRequester m
  match w with
  | 0x0 => h.writePortCtrl r p v
  | 0x6 => (h.storeReg (portKey p w) row v).bc12Update p
  | 0x24 => h.writeSwapCtrl (masterRequester m) p v
  | 0x28 => (h.storeBits (portKey p w) 0xFFFC00 v).writeFsw p (v.toNat % 0x400)
  | 0x29 => h.writeStageCtrl p v
  | 0x2C => h.writeSlew p (row.store (h.word (portKey p w)) v)
  | 0x2A => h.writeVset p (v.toNat % 0x10000)
  | 0x2B => h.writeIlim p (v.toNat % 0x10000)
  | 0x32 => h.writeCoef p 0 false v
  | 0x33 => h.writeCoef p 0 true v
  | 0x34 => h.writeCoef p 1 false v
  | 0x35 => h.writeCoef p 1 true v
  | 0x36 => h.writeCoef p 2 false v
  | 0x37 => h.writeCoef p 2 true v
  | 0x38 => h.writePassCtrl r p v
  | 0x40 => h.clearPortFault p v
  | _ => h.storeReg (portKey p w) row v

/-- A legal write of a register that exists once per master; a slot request acts (R77). A port engine's writes of its
selects are ignored (R45), and supervisor A's AUX_RESULT stands for every other master (R227). -/
def Hub.actOwn (m : Master) (w : Nat) (row : RegRow) (a v : Word) (h : Hub) : Hub :=
  match m with
  | .pe _ => h
  | m =>
    if w = 0x1011 then h.slotRequest m (BitVec.ofNat 16 v.toNat) (bitOf v 16) ⟨masterId m, 1, a⟩
    else if w = 0x201A then h.storeReg (masterKey (if m = .supB then .supB else .supA) w) row v
    else h.storeReg (masterKey m w) row v

/-- Free the oldest ring slot (R137). -/
def Hub.releaseRing (p : Fin 16) (h : Hub) : Hub :=
  h.mapPort p fun s => { s with ringFirst := s.ringFirst + 1, ringCount := s.ringCount - 1 }

/-- Queue a transmit slot for sending (R135, R136). -/
def Hub.queueTx (p : Fin 16) (slot : Fin 4) (h : Hub) : Hub :=
  (h.mapPort p fun s => { s with txSlots := s.txSlots ++ [slot] }).startAms p (.firmware slot)

/-- A legal write of a claim interface (R592–R594). -/
def Hub.actClaim (p : Fin 16) (w : Nat) (row : RegRow) (v : Word) (h : Hub) : Hub :=
  match w with
  | 0x0 => h.peClaim p v
  | 0x2 => h.peHandover p v
  | 0x6 => if bitOf v 0 then h.releaseRing p else h
  | 0x7 => if bitOf v 3 then h.queueTx p ⟨v.toNat % 4, by omega⟩ else h
  | 0x8 => h.adopt p
  | 0x3F => h.feedPe p
  | _ => h.storeReg (claimKey p w) row v

/-! ### Writes -/

/-- Judge a write, and act on it or reject it. -/
def Hub.judged (m : Master) (t : Target) (a : Word) (legal : Bool) (act : Hub → Hub) (h : Hub) : Hub :=
  if legal then act h else h.reject m t a

/-- A write of a register that exists once. -/
def Hub.writeHub (m : Master) (k : Nat) (row : RegRow) (a v : Word) (h : Hub) : Hub :=
  let held := match chanOf k with | some c => h.holdsChan c | none => false
  h.judged m (.hub k) a (mayWrite m k && !held && h.rowLegal row k v && h.hubLegal m k v)
    fun h => h.actHub m k row a v

/-- The master may store to memory there: not boot ROM, flash, ledger, the hub-saved area, or a running engine's code (R187,
R380, R400, R409). -/
def Hub.mayStore (h : Hub) (b : Nat) : Bool :=
  !(b < 0x10000) && !isFlash b && !(0x22000000 ≤ b && b < 0x22004000) && !(0x23000000 ≤ b && b < 0x23001040) &&
    (if hp : (b - 0x21000000) / 0x8000 < 16 then
      !(0x21000000 ≤ b && b < 0x21080000 && decide (b % 0x8000 < 0x4000)) || h.peHalted ⟨(b - 0x21000000) / 0x8000, hp⟩
    else true)

/-- Store to memory, merged into its 64-bit word (R404). -/
def Hub.writeMem (m : Master) (b n : Nat) (a v : Word) (h : Hub) : Hub × Bool :=
  if h.mayStore b then ((h.eccStore b (masterId m)).setBytes b (leBytes n v.toNat), false)
  else (h.badAccess m 1 a, true)

/-- Write what an address leads to; the result says whether the access failed. Core-private registers are written where
the engine is at hand. -/
def Hub.writeTarget (m : Master) (t : Target) (a v : Word) (n : Nat) (h : Hub) : Hub × Bool :=
  match t with
  | .hub k => (match findRow hubRows k with | some r => h.writeHub m k r a v | none => h, false)
  | .own w =>
    (match findRow masterRows w with
      | some r => h.judged m t a (r.legalValue v) fun h => h.actOwn m w r a v
      | none => h, false)
  | .port p w =>
    (match findRow portPortRows w with
      | some r => h.judged m t a (r.legalValue v && h.portLegal p w v) fun h => h.actPort m p w r v
      | none => h, false)
  | .quad _ _ => (h, false)
  | .claim p w =>
    (match findRow claimClaimRows w with
      | some r => h.judged m t a (r.legalValue v && h.claimLegal p w v) fun h => h.actClaim p w r v
      | none => h, false)
  | .priv _ => (h, false)
  | .blank => (h, false)
  | .absent => (h.badAccess m 1 a, false)
  | .memory b => h.writeMem m b n a v
  | .busError => (h.badAccess m 1 a, true)

end Sys2Proof.Machine
end

