-- ==== Sys2Proof/Machine/Operands.lean ====
section
/-! DEFINITION. What the instructions of chapter 11 work on: registers, control registers, the arithmetic of R417–R424,
traps (R443–R447), fetches, loads and stores (R425–R428), and the two stacks (R435–R439). -/

namespace Sys2Proof.Machine

open Sys2Proof.Reg

/-! ### Engines -/

/-- The master that an engine is (R27). -/
def engineMaster (e : Fin 18) : Master :=
  if he : e.val < 16 then .pe ⟨e.val, he⟩ else if e = 16 then .supA else .supB

/-- The supervisor that an engine is: A (`false`) or B. -/
def isB (e : Fin 18) : Bool := e == 17

/-- The engine is a supervisor. -/
def isSup (e : Fin 18) : Bool := 16 ≤ e.val

/-- Change an engine. -/
def setEngine (e : Fin 18) (f : Engine → Engine) (s : State) : State :=
  { s with engines := s.engines.set e (f s.engines[e]) }

/-- The engine issues instructions: in Run mode, a port engine that is not halted, a supervisor in RUNNING or RESTARTING
(R383, R388, R395, R396). -/
def Hub.runsCode (h : Hub) (e : Fin 18) : Bool :=
  h.power == .run &&
    (match engineMaster e with
      | .pe p => h.present p && !h.peHalted p
      | _ => h.hasSup (isB e) && (h.sup (isB e) == supRunning || h.sup (isB e) == supRestarting))

/-- Read a general register; g0 reads as zero (R412). -/
def Engine.reg (x : Engine) (r : Fin 32) : Word := if r = 0 then 0 else x.regs[r]

/-- Write a general register; a write to g0 is discarded (R412). -/
def Engine.setReg (r : Fin 32) (v : Word) (x : Engine) : Engine :=
  if r = 0 then x else { x with regs := x.regs.set r v }

/-- Go to the next instruction. -/
def Engine.advance (x : Engine) : Engine := { x with pc := x.pc + 4 }

/-- A register of an engine. -/
def regOf (e : Fin 18) (r : Fin 32) (s : State) : Word := s.engines[e].reg r

/-! ### Control registers (R441, R442) -/

abbrev ctlCoreId : Nat := 0x0
abbrev ctlCoreCtrl : Nat := 0x1
abbrev ctlStatus : Nat := 0x2
abbrev ctlTrapVec : Nat := 0x3
abbrev ctlTrapPc : Nat := 0x4
abbrev ctlTrapInsn : Nat := 0x5
abbrev ctlTrapCause : Nat := 0x6
abbrev ctlTrapAddr : Nat := 0x7
abbrev ctlDsp : Nat := 0x8
abbrev ctlDsLo : Nat := 0x9
abbrev ctlDsHi : Nat := 0xA
abbrev ctlRsDepth : Nat := 0xB
abbrev ctlIrqPend : Nat := 0xC
abbrev ctlIrqMask : Nat := 0xD
abbrev ctlTime : Nat := 0xE
abbrev ctlTimeCmp : Nat := 0xF

/-- Depth of the return stack (R438). -/
def stackSize (e : Fin 18) : Nat := if isSup e then 64 else 16

/-- TIME of an engine that began to count at `base`: core clocks on a supervisor, every second one on a port engine. -/
def timeAt (e : Fin 18) (clk base : Nat) : Word :=
  BitVec.ofNat 32 (if isSup e then clk - base else (clk - base) / 2)

/-- Line 9 is pending (TIME_CMP). -/
def timeDue (x : Engine) (now : Word) : Bool := (now - x.ctl[ctlTimeCmp]).toNat < 0x80000000

/-- The pending lines of an engine (R442), and the state after the free ones have been drawn (log entry 14). -/
def pending (e : Fin 18) (s : State) : Nat × State :=
  let x := s.engines[e]
  let due := if timeDue x (timeAt e s.hub.sun.clk x.timeBase) then 0x200 else 0
  match engineMaster e with
  | .pe p => (s.hub.peLines p + due, s)
  | _ =>
    let (u, h) := s.hub.takeFree
    (h.supLines (isB e) u + due, { s with hub := h })

/-- The bits of a control register that a write stores. -/
def ctlBits (n : Nat) : Word :=
  match n with
  | 0x1 => 0x3
  | 0x2 => 0x7
  | 0x3 => 0xFFFFFE00
  | 0x4 | 0x5 | 0x7 | 0xF => 0xFFFFFFFF
  | 0x6 => 0x70F
  | 0x8 | 0x9 | 0xA => 0xFFFFFFFC
  | 0xD => 0xFFFF
  | _ => 0

/-- Read a control register. -/
def readCtl (e : Fin 18) (n : Fin 16) (s : State) : Word × State :=
  let x := s.engines[e]
  match n.val with
  | 0x0 => (BitVec.ofNat 32 ((isSup e).toNat * 0x100 + e.val), s)
  | 0xB => (BitVec.ofNat 32 x.rstack.length, s)
  | 0xC => let r := pending e s; (BitVec.ofNat 32 r.1, r.2)
  | 0xE => (timeAt e s.hub.sun.clk x.timeBase, s)
  | _ => (x.ctl[n], s)

/-- Write a control register of an engine: RSV bits are ignored, RO registers keep their value, and RS_DEPTH discards the
newest entries of the return stack. -/
def Engine.writeCtl (n : Fin 16) (v : Word) (x : Engine) : Engine :=
  if n.val = ctlRsDepth then { x with rstack := x.rstack.drop (x.rstack.length - v.toNat % 128) }
  else { x with ctl := x.ctl.set n ((x.ctl[n] &&& ~~~ctlBits n.val) ||| (v &&& ctlBits n.val)) }

/-- A flag of STATUS or CORE_CTRL. -/
def Engine.flag (x : Engine) (n : Fin 16) (b : Nat) : Bool := x.ctl[n].getLsbD b

/-! ### Arithmetic (R417–R424) -/

/-- A condition as a result. -/
def ofBool (b : Bool) : Word := if b then 1 else 0

/-- A result narrowed to the signed range (R424). -/
def saturate (x : Int) : Word :=
  if 0x7FFFFFFF < x then 0x7FFFFFFF else if x < -0x80000000 then 0x80000000 else BitVec.ofInt 32 x

/-- SADD and SSUB. -/
def addSat (a b : Word) : Word := saturate (a.toInt + b.toInt)
def subSat (a b : Word) : Word := saturate (a.toInt - b.toInt)

/-- Shifts by a whole register (R423). -/
def shiftLeft (a b : Word) : Word := if 32 ≤ b.toNat then 0 else a <<< b.toNat
def shiftRight (a b : Word) : Word := if 32 ≤ b.toNat then 0 else a >>> b.toNat
def shiftSign (a b : Word) : Word :=
  if 32 ≤ b.toNat then (if a.msb then 0xFFFFFFFF else 0) else a.sshiftRight b.toNat
def rotate (a b : Word) : Word := a.rotateRight (b.toNat % 32)

/-- Bits [63:32] of the products. -/
def mulHigh (a b : Word) : Word := BitVec.ofInt 32 (a.toInt * b.toInt / 0x100000000)
def mulHighU (a b : Word) : Word := BitVec.ofNat 32 (a.toNat * b.toNat / 0x100000000)

/-- Quotients and remainders, with their values for a divisor of 0 (R418, R421, R422). -/
def quot (a b : Word) : Word := if b = 0 then 0xFFFFFFFF else BitVec.ofInt 32 (a.toInt.tdiv b.toInt)
def quotU (a b : Word) : Word := if b = 0 then 0xFFFFFFFF else BitVec.ofNat 32 (a.toNat / b.toNat)
def remS (a b : Word) : Word := if b = 0 then a else BitVec.ofInt 32 (a.toInt.tmod b.toInt)
def remU (a b : Word) : Word := if b = 0 then a else BitVec.ofNat 32 (a.toNat % b.toNat)

/-- An immediate extended by its sign, or with zeros (R419, R425). -/
def sext (v : BitVec 16) : Word := v.signExtend 32
def zext (v : BitVec 16) : Word := v.setWidth 32

/-! ### Traps (R443–R447) -/

abbrev trapUndef : Nat := 0
abbrev trapAlign : Nat := 1
abbrev trapFetch : Nat := 2
abbrev trapBus : Nat := 3
abbrev trapPoison : Nat := 4
abbrev trapDivz : Nat := 5
abbrev trapDstack : Nat := 6
abbrev trapRstack : Nat := 7
abbrev trapSyscall : Nat := 8
abbrev trapBreak : Nat := 9
abbrev trapIrq : Nat := 10

/-- A trap: cause, instruction word, address, and the flags of TRAP_CAUSE. -/
structure Trap where
  code : Nat
  insn : Word
  addr : Word
  poison : Bool := false
  ovf : Bool := false
  write : Bool := false

/-- TRAP_CAUSE of a trap. -/
def Trap.cause (t : Trap) : Word :=
  BitVec.ofNat 32 (t.code + t.poison.toNat * 0x100 + t.ovf.toNat * 0x200 + t.write.toNat * 0x400)

/-- Trap entry (R445): the TRAP registers, pie, ie, in_trap, and the vector. -/
def Engine.enter (t : Trap) (x : Engine) : Engine :=
  let status : Word := 4 ||| (if x.flag 2 0 then 2 else 0)
  let ctl := (((x.ctl.set ctlTrapPc x.pc).set ctlTrapInsn t.insn).set ctlTrapCause t.cause).set ctlTrapAddr t.addr
  { x with ctl := ctl.set ctlStatus status, pc := x.ctl[ctlTrapVec] + BitVec.ofNat 32 (0x20 * t.code), waiting := false }

/-- The engine halts for a double trap or a trap storm (R397, R447). -/
def Hub.failEngine (e : Fin 18) (h : Hub) : Hub :=
  match engineMaster e with
  | .pe p => h.failPe p 3
  | _ => h.failSup (isB e) false

/-- Traps of a port engine within the last millisecond of core time (R397, R453). -/
def recentTraps (now : Nat) (l : List Nat) : List Nat := now :: l.filter fun t => now - t < 300000

/-- A port engine has trapped: too many within 1 ms halt it (R397, R453). -/
def countTrap (e : Fin 18) (s : State) : State :=
  if isSup e then s
  else
    let l := recentTraps s.hub.sun.clk s.engines[e].traps
    let s := setEngine e (fun x => { x with traps := l }) s
    if s.hub.rd PE_CFG.storm_max < l.length then applyHub (Hub.failEngine e) s else s

/-- A synchronous trap (R439, R445, R447): DSTACK and RSTACK latch source 26; a double trap halts the engine and keeps the
TRAP registers. -/
def trap (e : Fin 18) (t : Trap) (s : State) : State :=
  let pc := s.engines[e].pc
  let s := if t.code = trapDstack ∨ t.code = trapRstack then
      applyHub (Hub.latch 26 ⟨masterId (engineMaster e), 7, pc⟩) s
    else s
  if s.engines[e].flag 2 2 then applyHub (Hub.failEngine e) s
  else countTrap e (setEngine e (Engine.enter t) s)

/-! ### Fetch (R377, R378, R400, R406) -/

/-- The supervisor-view address of a fetch, if the engine may fetch there. -/
def fetchAddr (e : Fin 18) (pc : Word) : Option Nat :=
  let a := pc.toNat
  if a % 4 ≠ 0 then none
  else
    match engineMaster e with
    | .pe p => if a < 0x4000 then some (0x21000000 + 0x8000 * p.val + a) else none
    | _ =>
      if a < 0x10000 ∨ (0x08000000 ≤ a ∧ a < 0x08200000) ∨ (0x20000000 ≤ a ∧ a < 0x20040000) ∨
          (0x23000000 ≤ a ∧ a < 0x23002000) then some a
      else none

/-- The word at an address can be read as it is: it is neither poisoned nor upset (R401–R403, R406). -/
def Hub.cleanWord (h : Hub) (a : Nat) : Bool := !h.poisoned a && (h.upsets.lookup (word64 a)).isNone

/-- The fetch of the instruction at the engine's pc: the state after it, and the trap that it meets. -/
def fetch (e : Fin 18) (s : State) : State × Option Trap :=
  let pc := s.engines[e].pc
  match fetchAddr e pc with
  | none => (applyHub (Hub.badAccess (engineMaster e) 2 pc) s, some { code := trapFetch, insn := 0, addr := pc })
  | some a =>
    if s.hub.cleanWord a then (s, none)
    else
      let r := s.hub.readWord a (masterId (engineMaster e)) 2
      let s := applyHub (fun _ => r.1) s
      (s, if r.2 then some { code := trapFetch, insn := 0, addr := pc, poison := true } else none)

/-- A waiting engine goes on once a line that IRQ_MASK lets through is pending (R451). -/
def wakes (e : Fin 18) (s : State) : Bool × State :=
  if s.engines[e].waiting then
    let r := pending e s
    let go := r.1 &&& s.engines[e].ctl[ctlIrqMask].toNat != 0
    (go, if go then setEngine e (fun x => { x with waiting := false }) r.2 else r.2)
  else (true, s)

/-- Issue an instruction on an engine: nothing on an engine that does not run or waits; FETCH, then UNDEF, come before all
other traps (R446). The body takes the instruction's word. -/
def issue (e : Fin 18) (i : Instr) (body : Word → State → State) (s : State) : State :=
  if s.hub.runsCode e then
    let w := wakes e s
    if w.1 then
      let f := fetch e w.2
      match f.2 with
      | some t => trap e t f.1
      | none =>
        let word := (encodeBurjo i).getD 0
        if (decodeBurjo e word).isSome then body word f.1
        else trap e { code := trapUndef, insn := word, addr := 0 } f.1
    else w.2
  else s

/-! ### Loads and stores -/

/-- A load's answer: the state after the access, and its data or its trap. -/
def busLoad (e : Fin 18) (a : Word) (n : Nat) (insn : Word) (s : State) : State × (Word ⊕ Trap) :=
  let m := engineMaster e
  match s.hub.locateWide m a n with
  | .priv k => let r := readCtl e ⟨k % 16, by omega⟩ s; (r.2, .inl r.1)
  | t =>
    let r := s.hub.readTarget m t a n
    let s := applyHub (fun _ => r.hub) s
    if r.err then (s, .inr { code := trapBus, insn := insn, addr := a })
    else if r.poison then (s, .inr { code := trapPoison, insn := insn, addr := a, poison := true })
    else (s, .inl r.data)

/-- A store: the state after it, and whether it met a bus error. -/
def busStore (e : Fin 18) (a v : Word) (n : Nat) (s : State) : State × Bool :=
  let m := engineMaster e
  match s.hub.locateWide m a n with
  | .priv k => (setEngine e (Engine.writeCtl ⟨k % 16, by omega⟩ v) s, false)
  | t =>
    let r := s.hub.writeTarget m t a v n
    (applyHub (fun _ => r.1) s, r.2)

/-- A loaded value of `n` bytes, extended by its sign or with zeros. -/
def extend (n : Nat) (signed : Bool) (v : Word) : Word :=
  if signed then (if n = 1 then (v.setWidth 8).signExtend 32 else if n = 2 then (v.setWidth 16).signExtend 32 else v)
  else v

/-- The instruction ends: an engine that it has not reset goes on at the next one. -/
def retire (e : Fin 18) (f : Engine → Engine) (s : State) : State := setEngine e (fun x => (f x).advance) s

/-- A load (R425–R428). -/
def load (e : Fin 18) (rd ra : Fin 32) (off : BitVec 16) (n : Nat) (signed : Bool) (w : Word) (s : State) : State :=
  let a := regOf e ra s + sext off
  if a.toNat % n ≠ 0 then trap e { code := trapAlign, insn := w, addr := a } s
  else
    let r := busLoad e a n w s
    match r.2 with
    | .inr t => trap e t r.1
    | .inl v => retire e (Engine.setReg rd (extend n signed v)) r.1

/-- A store (R425, R426): the engine goes on before the write acts, so that a write which releases it anew does so last. -/
def store (e : Fin 18) (rd ra : Fin 32) (off : BitVec 16) (n : Nat) (w : Word) (s : State) : State :=
  let a := regOf e ra s + sext off
  if a.toNat % n ≠ 0 then trap e { code := trapAlign, insn := w, addr := a, write := true } s
  else
    let v := regOf e rd s
    let r := busStore e a v n (retire e id s)
    if r.2 then
      trap e { code := trapBus, insn := w, addr := a, write := true }
        (setEngine e (fun x => { x with pc := s.engines[e].pc }) r.1)
    else r.1

/-! ### The stacks (R435–R439) -/

/-- The registers that a mask names, from g`base` on, in ascending order. -/
def maskRegs (base : Nat) (mask : BitVec 16) : List (Fin 32) :=
  (List.finRange 32).filter fun r => decide (base ≤ r.val) && mask.getLsbD (r.val - base)

/-- A DSTACK trap. -/
def stackTrap (insn addr : Word) (ovf : Bool) : Trap := { code := trapDstack, insn := insn, addr := addr, ovf := ovf }

/-- The words of a push, from an address upward: stops at the first that meets a bus error. -/
def pushWords (e : Fin 18) (w : Word) : List (Fin 32) → Word → State → State × Option Trap
  | [], _, s => (s, none)
  | r :: l, a, s =>
    let x := busStore e a (regOf e r s) 4 s
    if x.2 then (x.1, some { code := trapBus, insn := w, addr := a, write := true }) else pushWords e w l (a + 4) x.1

/-- The words of a pop: stops at the first that meets a bus error or poisoned data. -/
def popWords (e : Fin 18) (w : Word) : List (Fin 32) → Word → State → State × (List (Fin 32 × Word) ⊕ Trap)
  | [], _, s => (s, .inl [])
  | r :: l, a, s =>
    let x := busLoad e a 4 w s
    match x.2 with
    | .inr t => (x.1, .inr t)
    | .inl v =>
      let y := popWords e w l (a + 4) x.1
      match y.2 with
      | .inr t => (y.1, .inr t)
      | .inl vs => (y.1, .inl ((r, v) :: vs))

/-- DSP takes a value. -/
def Engine.setDsp (v : Word) (x : Engine) : Engine := x.writeCtl 8 v

/-- A push (R435–R437). -/
def push (e : Fin 18) (regs : List (Fin 32)) (w : Word) (s : State) : State :=
  let x := s.engines[e]
  let dsp := x.ctl[ctlDsp]
  let new := dsp - BitVec.ofNat 32 (4 * regs.length)
  if dsp.toNat < x.ctl[ctlDsLo].toNat + 4 * regs.length then trap e (stackTrap w new true) s
  else
    let r := pushWords e w regs new s
    match r.2 with
    | some t => trap e t r.1
    | none => retire e (Engine.setDsp new) r.1

/-- A pop (R435–R437). -/
def pop (e : Fin 18) (regs : List (Fin 32)) (w : Word) (s : State) : State :=
  let x := s.engines[e]
  let dsp := x.ctl[ctlDsp]
  let new := dsp + BitVec.ofNat 32 (4 * regs.length)
  if x.ctl[ctlDsHi].toNat < dsp.toNat + 4 * regs.length then trap e (stackTrap w new false) s
  else
    let r := popWords e w regs dsp s
    match r.2 with
    | .inr t => trap e t r.1
    | .inl vs => retire e (fun x => (vs.foldl (fun x v => x.setReg v.1 v.2) x).setDsp new) r.1

/-- ADDSP (R433, R436). -/
def addDsp (e : Fin 18) (operand : BitVec 16) (w : Word) (s : State) : State :=
  let x := s.engines[e]
  let dsp := x.ctl[ctlDsp]
  let new := dsp + sext operand
  let exact : Int := dsp.toNat + operand.toInt
  if exact < x.ctl[ctlDsLo].toNat then trap e (stackTrap w new true) s
  else if (x.ctl[ctlDsHi].toNat : Int) < exact then trap e (stackTrap w new false) s
  else retire e (Engine.setDsp new) s

/-- A call pushes its return address and jumps, or traps on a full stack (R438). -/
def callTo (e : Fin 18) (target w : Word) (s : State) : State :=
  let x := s.engines[e]
  if stackSize e ≤ x.rstack.length then trap e { code := trapRstack, insn := w, addr := 0, ovf := true } s
  else setEngine e (fun x => { x with rstack := (x.pc + 4) :: x.rstack, pc := target }) s

/-- RET (R438). -/
def ret (e : Fin 18) (w : Word) (s : State) : State :=
  match s.engines[e].rstack with
  | [] => trap e { code := trapRstack, insn := w, addr := 0 } s
  | a :: l => setEngine e (fun x => { x with rstack := l, pc := a }) s

/-! ### Branches (R431, R432) -/

/-- A branch of the compare form. -/
def branch (e : Fin 18) (ra rb : Fin 32) (disp : BitVec 16) (c : Word → Word → Bool) (s : State) : State :=
  if c (regOf e ra s) (regOf e rb s) then setEngine e (fun x => { x with pc := x.pc + 4 * sext disp }) s
  else retire e id s

/-- The target of the long form. -/
def longTarget (e : Fin 18) (disp : BitVec 26) (s : State) : Word := s.engines[e].pc + 4 * disp.signExtend 32

/-- Go to a register's address if it is aligned, else ALIGN (R432). -/
def jumpReg (e : Fin 18) (r : Fin 32) (w : Word) (go : Word → State → State) (s : State) : State :=
  let a := regOf e r s
  if a.toNat % 4 ≠ 0 then trap e { code := trapAlign, insn := w, addr := a } s else go a s

/-- A two-operand result. -/
def alu (e : Fin 18) (rd : Fin 32) (v : Word) (s : State) : State := retire e (Engine.setReg rd v) s

/-- A division (R422): a divisor of 0 traps if divz_trap is 1. -/
def divide (e : Fin 18) (rd ra rb : Fin 32) (f : Word → Word → Word) (w : Word) (s : State) : State :=
  if regOf e rb s = 0 ∧ s.engines[e].flag 1 0 then trap e { code := trapDivz, insn := w, addr := 0 } s
  else alu e rd (f (regOf e ra s) (regOf e rb s)) s

end Sys2Proof.Machine
end

