-- ==== Sys2Proof/Machine/Burjo.lean ====
section
/-! DEFINITION. The instructions of chapter 11, one meaning for each, and the taking of interrupts. -/

namespace Sys2Proof.Machine

open Sys2Proof.Reg

/-- BREAK with brk_halt at 1 (R452): a port engine halts with cause DEBUG, a supervisor as by command (R395). -/
def Hub.breakHalt (e : Fin 18) (h : Hub) : Hub :=
  match engineMaster e with
  | .pe p => h.haltPe p 4
  | _ => h.setSup (isB e) supHalting

/-- ERET (R450): ie from pie, in_trap cleared, on at TRAP_PC. -/
def Engine.leave (x : Engine) : Engine :=
  let status : Word := (x.ctl[ctlStatus] &&& 2) ||| (if x.flag 2 1 then 1 else 0)
  { x with ctl := x.ctl.set ctlStatus status, pc := x.ctl[ctlTrapPc] }

/-- ADD (R417). -/
def execAdd (e : Fin 18) (rd ra rb : Fin 32) (s : State) : Host.Outcome State Fault Refusal :=
  .next (issue e (.add e rd ra rb) (fun _ s => alu e rd (regOf e ra s + regOf e rb s) s) s)

/-- SUB (R417). -/
def execSub (e : Fin 18) (rd ra rb : Fin 32) (s : State) : Host.Outcome State Fault Refusal :=
  .next (issue e (.sub e rd ra rb) (fun _ s => alu e rd (regOf e ra s - regOf e rb s) s) s)

/-- AND (R417). -/
def execAnd (e : Fin 18) (rd ra rb : Fin 32) (s : State) : Host.Outcome State Fault Refusal :=
  .next (issue e (.and e rd ra rb) (fun _ s => alu e rd (regOf e ra s &&& regOf e rb s) s) s)

/-- OR (R417). -/
def execOr (e : Fin 18) (rd ra rb : Fin 32) (s : State) : Host.Outcome State Fault Refusal :=
  .next (issue e (.or e rd ra rb) (fun _ s => alu e rd (regOf e ra s ||| regOf e rb s) s) s)

/-- XOR (R417). -/
def execXor (e : Fin 18) (rd ra rb : Fin 32) (s : State) : Host.Outcome State Fault Refusal :=
  .next (issue e (.xor e rd ra rb) (fun _ s => alu e rd (regOf e ra s ^^^ regOf e rb s) s) s)

/-- SLT (R417). -/
def execSlt (e : Fin 18) (rd ra rb : Fin 32) (s : State) : Host.Outcome State Fault Refusal :=
  .next (issue e (.slt e rd ra rb) (fun _ s => alu e rd (ofBool ((regOf e ra s).slt (regOf e rb s))) s) s)

/-- SLTU (R417). -/
def execSltu (e : Fin 18) (rd ra rb : Fin 32) (s : State) : Host.Outcome State Fault Refusal :=
  .next (issue e (.sltu e rd ra rb) (fun _ s => alu e rd (ofBool ((regOf e ra s).ult (regOf e rb s))) s) s)

/-- NEG (R417, R420). -/
def execNeg (e : Fin 18) (rd ra : Fin 32) (s : State) : Host.Outcome State Fault Refusal :=
  .next (issue e (.neg e rd ra) (fun _ s => alu e rd (0 - regOf e ra s) s) s)

/-- SADD (R424). -/
def execSadd (e : Fin 18) (rd ra rb : Fin 32) (s : State) : Host.Outcome State Fault Refusal :=
  .next (issue e (.sadd e rd ra rb) (fun _ s => alu e rd (addSat (regOf e ra s) (regOf e rb s)) s) s)

/-- SSUB (R424). -/
def execSsub (e : Fin 18) (rd ra rb : Fin 32) (s : State) : Host.Outcome State Fault Refusal :=
  .next (issue e (.ssub e rd ra rb) (fun _ s => alu e rd (subSat (regOf e ra s) (regOf e rb s)) s) s)

/-- SHL (R423). -/
def execShl (e : Fin 18) (rd ra rb : Fin 32) (s : State) : Host.Outcome State Fault Refusal :=
  .next (issue e (.shl e rd ra rb) (fun _ s => alu e rd (shiftLeft (regOf e ra s) (regOf e rb s)) s) s)

/-- SHR (R423). -/
def execShr (e : Fin 18) (rd ra rb : Fin 32) (s : State) : Host.Outcome State Fault Refusal :=
  .next (issue e (.shr e rd ra rb) (fun _ s => alu e rd (shiftRight (regOf e ra s) (regOf e rb s)) s) s)

/-- SAR (R423). -/
def execSar (e : Fin 18) (rd ra rb : Fin 32) (s : State) : Host.Outcome State Fault Refusal :=
  .next (issue e (.sar e rd ra rb) (fun _ s => alu e rd (shiftSign (regOf e ra s) (regOf e rb s)) s) s)

/-- ROT (R423). -/
def execRot (e : Fin 18) (rd ra rb : Fin 32) (s : State) : Host.Outcome State Fault Refusal :=
  .next (issue e (.rot e rd ra rb) (fun _ s => alu e rd (rotate (regOf e ra s) (regOf e rb s)) s) s)

/-- MUL (R418, R420). -/
def execMul (e : Fin 18) (rd ra rb : Fin 32) (s : State) : Host.Outcome State Fault Refusal :=
  .next (issue e (.mul e rd ra rb) (fun _ s => alu e rd (regOf e ra s * regOf e rb s) s) s)

/-- MULH (R418). -/
def execMulh (e : Fin 18) (rd ra rb : Fin 32) (s : State) : Host.Outcome State Fault Refusal :=
  .next (issue e (.mulh e rd ra rb) (fun _ s => alu e rd (mulHigh (regOf e ra s) (regOf e rb s)) s) s)

/-- MULHU (R418). -/
def execMulhu (e : Fin 18) (rd ra rb : Fin 32) (s : State) : Host.Outcome State Fault Refusal :=
  .next (issue e (.mulhu e rd ra rb) (fun _ s => alu e rd (mulHighU (regOf e ra s) (regOf e rb s)) s) s)

/-- DIV (R418, R421, R422). -/
def execDiv (e : Fin 18) (rd ra rb : Fin 32) (s : State) : Host.Outcome State Fault Refusal :=
  .next (issue e (.div e rd ra rb) (fun w s => divide e rd ra rb quot w s) s)

/-- DIVU (R418, R422). -/
def execDivu (e : Fin 18) (rd ra rb : Fin 32) (s : State) : Host.Outcome State Fault Refusal :=
  .next (issue e (.divu e rd ra rb) (fun w s => divide e rd ra rb quotU w s) s)

/-- REM (R418, R421, R422). -/
def execRem (e : Fin 18) (rd ra rb : Fin 32) (s : State) : Host.Outcome State Fault Refusal :=
  .next (issue e (.rem e rd ra rb) (fun w s => divide e rd ra rb remS w s) s)

/-- REMU (R418, R422). -/
def execRemu (e : Fin 18) (rd ra rb : Fin 32) (s : State) : Host.Outcome State Fault Refusal :=
  .next (issue e (.remu e rd ra rb) (fun w s => divide e rd ra rb remU w s) s)

/-- ADDI (R419). -/
def execAddi (e : Fin 18) (rd ra : Fin 32) (imm : BitVec 16) (s : State) : Host.Outcome State Fault Refusal :=
  .next (issue e (.addi e rd ra imm) (fun _ s => alu e rd (regOf e ra s + sext imm) s) s)

/-- ANDI (R419). -/
def execAndi (e : Fin 18) (rd ra : Fin 32) (imm : BitVec 16) (s : State) : Host.Outcome State Fault Refusal :=
  .next (issue e (.andi e rd ra imm) (fun _ s => alu e rd (regOf e ra s &&& zext imm) s) s)

/-- ORI (R419). -/
def execOri (e : Fin 18) (rd ra : Fin 32) (imm : BitVec 16) (s : State) : Host.Outcome State Fault Refusal :=
  .next (issue e (.ori e rd ra imm) (fun _ s => alu e rd (regOf e ra s ||| zext imm) s) s)

/-- XORI (R419). -/
def execXori (e : Fin 18) (rd ra : Fin 32) (imm : BitVec 16) (s : State) : Host.Outcome State Fault Refusal :=
  .next (issue e (.xori e rd ra imm) (fun _ s => alu e rd (regOf e ra s ^^^ zext imm) s) s)

/-- SLTI (R419). -/
def execSlti (e : Fin 18) (rd ra : Fin 32) (imm : BitVec 16) (s : State) : Host.Outcome State Fault Refusal :=
  .next (issue e (.slti e rd ra imm) (fun _ s => alu e rd (ofBool ((regOf e ra s).slt (sext imm))) s) s)

/-- SLTIU (R419). -/
def execSltiu (e : Fin 18) (rd ra : Fin 32) (imm : BitVec 16) (s : State) : Host.Outcome State Fault Refusal :=
  .next (issue e (.sltiu e rd ra imm) (fun _ s => alu e rd (ofBool ((regOf e ra s).ult (sext imm))) s) s)

/-- LUI (R419). -/
def execLui (e : Fin 18) (rd : Fin 32) (imm : BitVec 16) (s : State) : Host.Outcome State Fault Refusal :=
  .next (issue e (.lui e rd imm) (fun _ s => alu e rd (imm ++ (0 : BitVec 16)) s) s)

/-- SHLI (R423). -/
def execShli (e : Fin 18) (rd ra : Fin 32) (amt : BitVec 5) (s : State) : Host.Outcome State Fault Refusal :=
  .next (issue e (.shli e rd ra amt) (fun _ s => alu e rd (shiftLeft (regOf e ra s) (amt.setWidth 32)) s) s)

/-- SHRI (R423). -/
def execShri (e : Fin 18) (rd ra : Fin 32) (amt : BitVec 5) (s : State) : Host.Outcome State Fault Refusal :=
  .next (issue e (.shri e rd ra amt) (fun _ s => alu e rd (shiftRight (regOf e ra s) (amt.setWidth 32)) s) s)

/-- SARI (R423). -/
def execSari (e : Fin 18) (rd ra : Fin 32) (amt : BitVec 5) (s : State) : Host.Outcome State Fault Refusal :=
  .next (issue e (.sari e rd ra amt) (fun _ s => alu e rd (shiftSign (regOf e ra s) (amt.setWidth 32)) s) s)

/-- ROTI (R423). -/
def execRoti (e : Fin 18) (rd ra : Fin 32) (amt : BitVec 5) (s : State) : Host.Outcome State Fault Refusal :=
  .next (issue e (.roti e rd ra amt) (fun _ s => alu e rd (rotate (regOf e ra s) (amt.setWidth 32)) s) s)

/-- LDW (R425–R428). -/
def execLdw (e : Fin 18) (rd ra : Fin 32) (off : BitVec 16) (s : State) : Host.Outcome State Fault Refusal :=
  .next (issue e (.ldw e rd ra off) (load e rd ra off 4 false) s)

/-- LDH (R425–R428). -/
def execLdh (e : Fin 18) (rd ra : Fin 32) (off : BitVec 16) (s : State) : Host.Outcome State Fault Refusal :=
  .next (issue e (.ldh e rd ra off) (load e rd ra off 2 true) s)

/-- LDHU (R425–R428). -/
def execLdhu (e : Fin 18) (rd ra : Fin 32) (off : BitVec 16) (s : State) : Host.Outcome State Fault Refusal :=
  .next (issue e (.ldhu e rd ra off) (load e rd ra off 2 false) s)

/-- LDB (R425–R428). -/
def execLdb (e : Fin 18) (rd ra : Fin 32) (off : BitVec 16) (s : State) : Host.Outcome State Fault Refusal :=
  .next (issue e (.ldb e rd ra off) (load e rd ra off 1 true) s)

/-- LDBU (R425–R428). -/
def execLdbu (e : Fin 18) (rd ra : Fin 32) (off : BitVec 16) (s : State) : Host.Outcome State Fault Refusal :=
  .next (issue e (.ldbu e rd ra off) (load e rd ra off 1 false) s)

/-- STW (R425, R426). -/
def execStw (e : Fin 18) (rd ra : Fin 32) (off : BitVec 16) (s : State) : Host.Outcome State Fault Refusal :=
  .next (issue e (.stw e rd ra off) (store e rd ra off 4) s)

/-- STH (R425, R426). -/
def execSth (e : Fin 18) (rd ra : Fin 32) (off : BitVec 16) (s : State) : Host.Outcome State Fault Refusal :=
  .next (issue e (.sth e rd ra off) (store e rd ra off 2) s)

/-- STB (R425, R426). -/
def execStb (e : Fin 18) (rd ra : Fin 32) (off : BitVec 16) (s : State) : Host.Outcome State Fault Refusal :=
  .next (issue e (.stb e rd ra off) (store e rd ra off 1) s)

/-- BEQ (R431). -/
def execBeq (e : Fin 18) (ra rb : Fin 32) (disp : BitVec 16) (s : State) : Host.Outcome State Fault Refusal :=
  .next (issue e (.beq e ra rb disp) (fun _ s => branch e ra rb disp (fun a b => a == b) s) s)

/-- BNE (R431). -/
def execBne (e : Fin 18) (ra rb : Fin 32) (disp : BitVec 16) (s : State) : Host.Outcome State Fault Refusal :=
  .next (issue e (.bne e ra rb disp) (fun _ s => branch e ra rb disp (fun a b => a != b) s) s)

/-- BLT (R431). -/
def execBlt (e : Fin 18) (ra rb : Fin 32) (disp : BitVec 16) (s : State) : Host.Outcome State Fault Refusal :=
  .next (issue e (.blt e ra rb disp) (fun _ s => branch e ra rb disp (fun a b => a.slt b) s) s)

/-- BGE (R431). -/
def execBge (e : Fin 18) (ra rb : Fin 32) (disp : BitVec 16) (s : State) : Host.Outcome State Fault Refusal :=
  .next (issue e (.bge e ra rb disp) (fun _ s => branch e ra rb disp (fun a b => !a.slt b) s) s)

/-- BLTU (R431). -/
def execBltu (e : Fin 18) (ra rb : Fin 32) (disp : BitVec 16) (s : State) : Host.Outcome State Fault Refusal :=
  .next (issue e (.bltu e ra rb disp) (fun _ s => branch e ra rb disp (fun a b => a.ult b) s) s)

/-- BGEU (R431). -/
def execBgeu (e : Fin 18) (ra rb : Fin 32) (disp : BitVec 16) (s : State) : Host.Outcome State Fault Refusal :=
  .next (issue e (.bgeu e ra rb disp) (fun _ s => branch e ra rb disp (fun a b => !a.ult b) s) s)

/-- JMP (R431). -/
def execJmp (e : Fin 18) (disp : BitVec 26) (s : State) : Host.Outcome State Fault Refusal :=
  .next (issue e (.jmp e disp) (fun _ s => setEngine e (fun x => { x with pc := longTarget e disp s }) s) s)

/-- CALL (R431, R438). -/
def execCall (e : Fin 18) (disp : BitVec 26) (s : State) : Host.Outcome State Fault Refusal :=
  .next (issue e (.call e disp) (fun w s => callTo e (longTarget e disp s) w s) s)

/-- PUSHL (R433, R435–R437). -/
def execPushl (e : Fin 18) (mask : BitVec 16) (s : State) : Host.Outcome State Fault Refusal :=
  .next (issue e (.pushl e mask) (push e (maskRegs 0 mask)) s)

/-- POPL (R433, R435–R437). -/
def execPopl (e : Fin 18) (mask : BitVec 16) (s : State) : Host.Outcome State Fault Refusal :=
  .next (issue e (.popl e mask) (pop e (maskRegs 0 mask)) s)

/-- PUSHH (R433, R435–R437). -/
def execPushh (e : Fin 18) (mask : BitVec 16) (s : State) : Host.Outcome State Fault Refusal :=
  .next (issue e (.pushh e mask) (push e (maskRegs 16 mask)) s)

/-- POPH (R433, R435–R437). -/
def execPoph (e : Fin 18) (mask : BitVec 16) (s : State) : Host.Outcome State Fault Refusal :=
  .next (issue e (.poph e mask) (pop e (maskRegs 16 mask)) s)

/-- RET (R438). -/
def execRet (e : Fin 18) (s : State) : Host.Outcome State Fault Refusal :=
  .next (issue e (.ret e) (Sys2Proof.Machine.ret e) s)

/-- JMPR (R432). -/
def execJmpr (e : Fin 18) (reg : Fin 32) (s : State) : Host.Outcome State Fault Refusal :=
  .next (issue e (.jmpr e reg) (fun w s => jumpReg e reg w (fun a s => setEngine e (fun x => { x with pc := a }) s) s) s)

/-- CALLR (R432, R438). -/
def execCallr (e : Fin 18) (reg : Fin 32) (s : State) : Host.Outcome State Fault Refusal :=
  .next (issue e (.callr e reg) (fun w s => jumpReg e reg w (fun a s => callTo e a w s) s) s)

/-- ADDSP (R433, R436). -/
def execAddsp (e : Fin 18) (operand : BitVec 16) (s : State) : Host.Outcome State Fault Refusal :=
  .next (issue e (.addsp e operand) (addDsp e operand) s)

/-- NOP (R440). -/
def execNop (e : Fin 18) (s : State) : Host.Outcome State Fault Refusal :=
  .next (issue e (.nop e) (fun _ s => retire e id s) s)

/-- MFC (R441). -/
def execMfc (e : Fin 18) (reg : Fin 32) (ctl : BitVec 8) (s : State) : Host.Outcome State Fault Refusal :=
  .next (issue e (.mfc e reg ctl) (fun _ s =>
    let r := readCtl e (ctl.setWidth 4).toFin s
    alu e reg r.1 r.2) s)

/-- MTC (R441). -/
def execMtc (e : Fin 18) (reg : Fin 32) (ctl : BitVec 8) (s : State) : Host.Outcome State Fault Refusal :=
  .next (issue e (.mtc e reg ctl) (fun _ s => retire e (Engine.writeCtl (ctl.setWidth 4).toFin (regOf e reg s)) s) s)

/-- TRAP (R440, R444): cause SYSCALL, the operand in TRAP_INSN. -/
def execTrap (e : Fin 18) (operand : BitVec 16) (s : State) : Host.Outcome State Fault Refusal :=
  .next (issue e (.trap e operand) (fun w s => Sys2Proof.Machine.trap e { code := trapSyscall, insn := w, addr := 0 } s) s)

/-- BREAK (R452). -/
def execBrk (e : Fin 18) (s : State) : Host.Outcome State Fault Refusal :=
  .next (issue e (.brk e) (fun w s =>
    if s.engines[e].flag 1 1 then applyHub (Hub.breakHalt e) s
    else Sys2Proof.Machine.trap e { code := trapBreak, insn := w, addr := 0 } s) s)

/-- ERET (R450). -/
def execEret (e : Fin 18) (s : State) : Host.Outcome State Fault Refusal :=
  .next (issue e (.eret e) (fun _ s => setEngine e Engine.leave s) s)

/-- WAIT (R451). -/
def execWait (e : Fin 18) (s : State) : Host.Outcome State Fault Refusal :=
  .next (issue e (.wait e) (fun _ s => retire e (fun x => { x with waiting := true }) s) s)

/-- FENCE (R429, R430): in a model that executes in order, every access has already completed. -/
def execFence (e : Fin 18) (s : State) : Host.Outcome State Fault Refusal :=
  .next (issue e (.fence e) (fun _ s => retire e id s) s)

/-- RESERVED_ENCODING (R414): the engine traps with cause UNDEF; a word that names an instruction is no such event (log
entry 7). -/
def execReservedEncoding (e : Fin 18) (w : Word) (s : State) : Host.Outcome State Fault Refusal :=
  .next (if (decodeBurjo e w).isSome then s else issue e (.reservedEncoding e w) (fun _ s => s) s)

/-! ### Interrupts -/

/-- The takeover interrupt has been taken (log entry 30). -/
def Hub.takeTakeover (b : Bool) (h : Hub) : Hub :=
  { h with takeover := h.takeover &&& (if b then 1 else 2) }

/-- An interrupt is taken (R445, R449). -/
def takeIrq (e : Fin 18) (lines : Nat) (s : State) : State :=
  let s := setEngine e (Engine.enter { code := trapIrq, insn := 0, addr := 0 }) s
  if isSup e && lines.testBit 5 then { s with hub := s.hub.takeTakeover (isB e) } else s

/-- IRQ (R449): at an instruction boundary, with ie at 1, in_trap at 0 and a line pending that IRQ_MASK lets through. -/
def execIrq (e : Fin 18) (s : State) : Host.Outcome State Fault Refusal :=
  .next (
    if s.hub.runsCode e then
      let r := pending e s
      let x := s.engines[e]
      let lines := r.1 &&& x.ctl[ctlIrqMask].toNat
      if x.flag 2 0 && !x.flag 2 2 && lines != 0 then takeIrq e lines r.2 else r.2
    else s)

/-- TIME_CMP_MATCH (R442, R451): line 9 is pending once TIME has reached TIME_CMP; an engine that waits for it goes on. -/
def execTimeCmpMatch (e : Fin 18) (s : State) : Host.Outcome State Fault Refusal :=
  let x := s.engines[e]
  .next (
    if s.hub.runsCode e && timeDue x (timeAt e s.hub.sun.clk x.timeBase) && x.ctl[ctlIrqMask].getLsbD 9 then
      setEngine e (fun x => { x with waiting := false }) s
    else s)

end Sys2Proof.Machine
end

