-- ==== Sys2Proof/Machine/Writes.lean ====
section
/-! DEFINITION. The rows of the table that are one write or one read of a register. Each is the master's access to that
register, with the bits that name the row forced into the value; what the access then does is BusAccess.lean's. -/

namespace Sys2Proof.Machine

open Sys2Proof.Reg

/-- The address of a register that exists once, in the supervisor view. -/
def regAddr (k : Nat) : Word := BitVec.ofNat 32 (0x40000000 + k / 0x1000 * 0x1000 + k % 0x1000 * 4)

/-- The address of a word of the PORT window. -/
def portAddr (w : Nat) : Word := BitVec.ofNat 32 (0x41000000 + 4 * w)

/-- The address of a word of the claim interface. -/
def claimAddr (w : Nat) : Word := BitVec.ofNat 32 (0x42000000 + 4 * w)

/-- The key of a word of a channel of the Check Unit. -/
def chanKey (c : Fin 2) (w : Nat) : Nat := 0x4000 + 0x40 * c.val + w

/-- A value with some bits set and some cleared first. -/
def forced (set clear : Word) (v : Word) : Word := (v &&& ~~~clear) ||| set

/-- A master's write of `n` bytes: nothing if it makes no accesses; core-private registers are the supervisor's own
(R399). -/
def busWrite (m : Master) (a : Word) (n : Nat) (v : Word) (s : State) : State :=
  if s.hub.issues m then
    match s.hub.locateWide m a n with
    | .priv k => setEngine (if m = .supB then 17 else 16) (Engine.writeCtl ⟨k % 16, by omega⟩ v) s
    | t => applyHub (fun h => (h.writeTarget m t a v n).1) s
  else s

/-- A master's read of `n` bytes, for its effect. -/
def busRead (m : Master) (a : Word) (n : Nat) (s : State) : State :=
  if s.hub.issues m then
    match s.hub.locateWide m a n with
    | .priv _ => s
    | t => applyHub (fun h => (h.readTarget m t a n).hub) s
  else s

/-- A write of a register that exists once, or once per master. -/
def writeReg (m : Master) (k : Nat) (v : Word) (s : State) : State := busWrite m (regAddr k) 4 v s

/-- A write of a register of the port that the master has selected; a port engine has its own (R45). -/
def writePort (m : Master) (w : Nat) (v : Word) (s : State) : State := busWrite m (portAddr w) 4 v s

/-- A port engine's write of its claim interface. -/
def writeClaim (p : Fin 16) (w : Nat) (v : Word) (s : State) : State := busWrite (.pe p) (claimAddr w) 4 v s

/-- REGISTER_WRITE (R583). -/
def execRegisterWrite (m : Master) (addr v : Word) (s : State) : Host.Outcome State Fault Refusal :=
  .next (busWrite m addr 4 v s)

/-- ABSENT_UNIT_ACCESS (R2, R3, R586): nothing if the unit is present. -/
def execAbsentUnitAccess (m : Master) (addr : Word) (write : Bool) (v : Word) (s : State) :
    Host.Outcome State Fault Refusal :=
  .next (if s.hub.locateWide m addr 4 = .absent then
      if write then busWrite m addr 4 v s else busRead m addr 4 s
    else s)

/-- The bytes of a width. -/
def widthBytes : Width → Nat
  | .byte => 1
  | .half => 2
  | .word => 4

/-- An access is a bus error (R15, R46, R399, R400). -/
def Hub.isBusError (m : Master) (a : Word) (n : Nat) (write : Bool) (h : Hub) : Bool :=
  match h.locateWide m a n with
  | .busError => true
  | .memory b => write && !h.mayStore b
  | _ => false

/-- BUS_ERROR_ACCESS (R15): nothing if the access is in order. -/
def execBusErrorAccess (m : Master) (addr : Word) (width : Width) (write : Bool) (v : Word) (s : State) :
    Host.Outcome State Fault Refusal :=
  .next (if s.hub.isBusError m addr (widthBytes width) write then
      if write then busWrite m addr (widthBytes width) v s else busRead m addr (widthBytes width) s
    else s)

/-- SUN_CYCLE_READ (R88). -/
def execSunCycleRead (m : Master) (s : State) : Host.Outcome State Fault Refusal := .next (busRead m (regAddr 0x1003) 4 s)

/-- STAGE_TELEM1_READ (R286). -/
def execStageTelem1Read (m : Master) (s : State) : Host.Outcome State Fault Refusal := .next (busRead m (portAddr 0x30) 4 s)

/-- LOG_POP (R477). -/
def execLogPop (m : Master) (s : State) : Host.Outcome State Fault Refusal := .next (busRead m (regAddr 0xA004) 4 s)

/-- SUPERVISOR_HALT (R395): run_a or run_b, or both, go from 1 to 0. -/
def execSupervisorHalt (m : Master) (v : Word) (s : State) : Host.Outcome State Fault Refusal :=
  .next (writeReg m 0x9000 (s.hub.word 0x9000 &&& (v ||| 0xFFFFFFFC)) s)

/-- PE_RUN_CLEAR (R396): the bits that the value has 0 clear, and no bit sets. -/
def execPeRunClear (m : Master) (v : Word) (s : State) : Host.Outcome State Fault Refusal :=
  .next (writeReg m 0x9008 (s.hub.word 0x9008 &&& v) s)

/-- PE_RUN_SET (R383): the bits that the value has 1 set, and no bit clears. -/
def execPeRunSet (m : Master) (v : Word) (s : State) : Host.Outcome State Fault Refusal :=
  .next (writeReg m 0x9008 (s.hub.word 0x9008 ||| v) s)

/-- PORT_SEL_WRITE (R42). -/
def execPortSelWrite (m : Master) (v : Word) (s : State) : Host.Outcome State Fault Refusal :=
  .next (writeReg m 0xF000 v s)

/-- QUAD_SEL_WRITE (R42). -/
def execQuadSelWrite (m : Master) (v : Word) (s : State) : Host.Outcome State Fault Refusal :=
  .next (writeReg m 0xF001 v s)

/-- SLOT_REQ (R77). -/
def execSlotReq (m : Master) (v : Word) (s : State) : Host.Outcome State Fault Refusal :=
  .next (writeReg m 0x1011 v s)

/-- SLOT_CANCEL (R82). -/
def execSlotCancel (m : Master) (v : Word) (s : State) : Host.Outcome State Fault Refusal :=
  .next (writeReg m 0x1012 v s)

/-- PORT_ENABLE_CLEAR (R124). -/
def execPortEnableClear (m : Master) (v : Word) (s : State) : Host.Outcome State Fault Refusal :=
  .next (writePort m 0x0 (forced 0x0 0x1 v) s)

/-- PORT_ENABLE_SET (R125). -/
def execPortEnableSet (m : Master) (v : Word) (s : State) : Host.Outcome State Fault Refusal :=
  .next (writePort m 0x0 (forced 0x1 0x0 v) s)

/-- PORT_RECOVER (R121). -/
def execPortRecover (m : Master) (v : Word) (s : State) : Host.Outcome State Fault Refusal :=
  .next (writePort m 0x0 (forced 0x80 0x0 v) s)

/-- CLAIM_IMPLICIT (R109). -/
def execClaimImplicit (p : Fin 16) (v : Word) (s : State) : Host.Outcome State Fault Refusal :=
  .next (writeClaim p 0x0 (forced 0x20000000 0xE0000000 v) s)

/-- CLAIM_REQUEST (R193). -/
def execClaimRequest (p : Fin 16) (v : Word) (s : State) : Host.Outcome State Fault Refusal :=
  .next (writeClaim p 0x0 (forced 0x40000000 0xE0000000 v) s)

/-- CLAIM_STANDBY (R246). -/
def execClaimStandby (p : Fin 16) (v : Word) (s : State) : Host.Outcome State Fault Refusal :=
  .next (writeClaim p 0x0 (forced 0x60000000 0xE0000000 v) s)

/-- CLAIM_CONFIRM (R593). -/
def execClaimConfirm (p : Fin 16) (v : Word) (s : State) : Host.Outcome State Fault Refusal :=
  .next (writeClaim p 0x0 (forced 0x80000000 0xE0000000 v) s)

/-- CLAIM_WITHDRAW (R592). -/
def execClaimWithdraw (p : Fin 16) (v : Word) (s : State) : Host.Outcome State Fault Refusal :=
  .next (writeClaim p 0x0 (forced 0xA0000000 0xE0000000 v) s)

/-- HUB_DERATE_WRITE (R185). -/
def execHubDerateWrite (m : Master) (v : Word) (s : State) : Host.Outcome State Fault Refusal :=
  .next (writeReg m 0x2003 v s)

/-- QUAD_DERATE_WRITE (R185). -/
def execQuadDerateWrite (m : Master) (q : Fin 4) (v : Word) (s : State) : Host.Outcome State Fault Refusal :=
  .next (writeReg m (0x200C + q.val) v s)

/-- HAMPER_VETO (R202). -/
def execHamperVeto (m : Master) (v : Word) (s : State) : Host.Outcome State Fault Refusal :=
  .next (writeReg m 0x2018 (forced 0x10 0x0 v) s)

/-- AUX_CLAIM (R183). -/
def execAuxClaim (m : Master) (v : Word) (s : State) : Host.Outcome State Fault Refusal :=
  .next (writeReg m 0x2019 (forced 0x0 0x80000000 v) s)

/-- AUX_RELEASE (R227). -/
def execAuxRelease (m : Master) (v : Word) (s : State) : Host.Outcome State Fault Refusal :=
  .next (writeReg m 0x2019 (forced 0x80000000 0x0 v) s)

/-- SWAP_GO_PR (R230). -/
def execSwapGoPr (m : Master) (v : Word) (s : State) : Host.Outcome State Fault Refusal :=
  .next (writePort m 0x24 (forced 0x1 0xF v) s)

/-- SWAP_GO_DR (R230). -/
def execSwapGoDr (m : Master) (v : Word) (s : State) : Host.Outcome State Fault Refusal :=
  .next (writePort m 0x24 (forced 0x2 0xF v) s)

/-- SWAP_GO_VCONN (R230). -/
def execSwapGoVconn (m : Master) (v : Word) (s : State) : Host.Outcome State Fault Refusal :=
  .next (writePort m 0x24 (forced 0x3 0xF v) s)

/-- BIVOUAC_FORCE (R252). -/
def execBivouacForce (m : Master) (v : Word) (s : State) : Host.Outcome State Fault Refusal :=
  .next (writeReg m 0x80 (forced 0x4 0x0 v) s)

/-- BIVOUAC_DISABLE (R254). -/
def execBivouacDisable (m : Master) (v : Word) (s : State) : Host.Outcome State Fault Refusal :=
  .next (writeReg m 0x80 (forced 0x0 0x1 v) s)

/-- BIVOUAC_EXIT (R269). -/
def execBivouacExit (m : Master) (v : Word) (s : State) : Host.Outcome State Fault Refusal :=
  .next (writeReg m 0x80 (forced 0x8 0x0 v) s)

/-- STAGE_CFG_WRITE (R281). -/
def execStageCfgWrite (m : Master) (v : Word) (s : State) : Host.Outcome State Fault Refusal :=
  .next (writePort m 0x28 v s)

/-- COEF_I_WRITE (R290). -/
def execCoefIWrite (m : Master) (n : Fin 3) (v : Word) (s : State) : Host.Outcome State Fault Refusal :=
  .next (writePort m (0x33 + 2 * n.val) v s)

/-- STAGE_VSET_WRITE (R292). -/
def execStageVsetWrite (m : Master) (v : Word) (s : State) : Host.Outcome State Fault Refusal :=
  .next (writePort m 0x2A v s)

/-- STAGE_ILIM_WRITE (R293). -/
def execStageIlimWrite (m : Master) (v : Word) (s : State) : Host.Outcome State Fault Refusal :=
  .next (writePort m 0x2B v s)

/-- STAGE_MODE_OFF (R315). -/
def execStageModeOff (m : Master) (v : Word) (s : State) : Host.Outcome State Fault Refusal :=
  .next (writePort m 0x29 (forced 0x0 0x3 v) s)

/-- STAGE_MODE_FORWARD (R276). -/
def execStageModeForward (m : Master) (v : Word) (s : State) : Host.Outcome State Fault Refusal :=
  .next (writePort m 0x29 (forced 0x1 0x3 v) s)

/-- STAGE_MODE_REVERSE (R309). -/
def execStageModeReverse (m : Master) (v : Word) (s : State) : Host.Outcome State Fault Refusal :=
  .next (writePort m 0x29 (forced 0x2 0x3 v) s)

/-- STAGE_FRS_ARM (R311). -/
def execStageFrsArm (m : Master) (v : Word) (s : State) : Host.Outcome State Fault Refusal :=
  .next (writePort m 0x29 (forced 0x8 0x0 v) s)

/-- DISCHARGE_TEST (R313). -/
def execDischargeTest (m : Master) (v : Word) (s : State) : Host.Outcome State Fault Refusal :=
  .next (writePort m 0x29 (forced 0x200 0x0 v) s)

/-- LEAK_GO (R339). -/
def execLeakGo (m : Master) (v : Word) (s : State) : Host.Outcome State Fault Refusal :=
  .next (writePort m 0x38 (forced 0x80 0x0 v) s)

/-- PASS_EN_CLEAR (R320). -/
def execPassEnClear (m : Master) (v : Word) (s : State) : Host.Outcome State Fault Refusal :=
  .next (writePort m 0x38 (forced 0x0 0x1 v) s)

/-- PASS_EN_SET (R336). -/
def execPassEnSet (m : Master) (v : Word) (s : State) : Host.Outcome State Fault Refusal :=
  .next (writePort m 0x38 (forced 0x1 0x0 v) s)

/-- PORT_FAULT_CLEAR (R630). -/
def execPortFaultClear (m : Master) (v : Word) (s : State) : Host.Outcome State Fault Refusal :=
  .next (writePort m 0x40 v s)

/-- CARD_ERASE (R366). -/
def execCardErase (m : Master) (v : Word) (s : State) : Host.Outcome State Fault Refusal :=
  .next (writeReg m 0xB (forced 0x1 0x0 v) s)

/-- WATCH_GO (R369). -/
def execWatchGo (m : Master) (v : Word) (s : State) : Host.Outcome State Fault Refusal :=
  .next (writeReg m 0x3 (forced 0x1 0x2 v) s)

/-- SHIP_GO (R371). -/
def execShipGo (m : Master) (v : Word) (s : State) : Host.Outcome State Fault Refusal :=
  .next (writeReg m 0x3 (forced 0xA502 0xFF01 v) s)

/-- WDT_KICK (R384). -/
def execWdtKick (m : Master) (v : Word) (s : State) : Host.Outcome State Fault Refusal :=
  .next (writeReg m 0x9003 (forced 0x5A 0xFF v) s)

/-- RESTART_A (R388). -/
def execRestartA (m : Master) (v : Word) (s : State) : Host.Outcome State Fault Refusal :=
  .next (writeReg m 0x9000 (forced 0x10 0x0 v) s)

/-- RESTART_B (R388). -/
def execRestartB (m : Master) (v : Word) (s : State) : Host.Outcome State Fault Refusal :=
  .next (writeReg m 0x9000 (forced 0x20 0x0 v) s)

/-- SUPERVISOR_B_RELEASE (R383). -/
def execSupervisorBRelease (m : Master) (v : Word) (s : State) : Host.Outcome State Fault Refusal :=
  .next (writeReg m 0x9000 (forced 0x2 0x0 v) s)

/-- PE_KICK (R397). -/
def execPeKick (p : Fin 16) (v : Word) (s : State) : Host.Outcome State Fault Refusal :=
  .next (writeClaim p 0x3F (forced 0x5A 0xFF v) s)

/-- MEM_ZERO (R404). -/
def execMemZero (m : Master) (v : Word) (s : State) : Host.Outcome State Fault Refusal :=
  .next (writeReg m 0x9016 v s)

/-- FAULT_STATUS_CLEAR (R462). -/
def execFaultStatusClear (m : Master) (hi : Bool) (v : Word) (s : State) : Host.Outcome State Fault Refusal :=
  .next (writeReg m (0x3000 + hi.toNat) v s)

/-- FAULT_NEW_CLEAR (R463). -/
def execFaultNewClear (m : Master) (hi : Bool) (v : Word) (s : State) : Host.Outcome State Fault Refusal :=
  .next (writeReg m (0x3002 + hi.toNat) v s)

/-- FAULT_FORCE (R464). -/
def execFaultForce (m : Master) (hi : Bool) (v : Word) (s : State) : Host.Outcome State Fault Refusal :=
  .next (writeReg m (0x3004 + hi.toNat) v s)

/-- FAULT_SEV_WRITE (R457). -/
def execFaultSevWrite (m : Master) (k : Fin 4) (v : Word) (s : State) : Host.Outcome State Fault Refusal :=
  .next (writeReg m (0x3008 + k.val) v s)

/-- LOG_WRITE (R478). -/
def execLogWrite (m : Master) (v : Word) (s : State) : Host.Outcome State Fault Refusal :=
  .next (writeReg m 0xA00C v s)

/-- CHECK_GO_SCAN (R486). -/
def execCheckGoScan (m : Master) (c : Fin 2) (v : Word) (s : State) : Host.Outcome State Fault Refusal :=
  .next (writeReg m (chanKey c 0x0) (forced 0x2 0x80 v) s)

/-- CHECK_GO_FEED (R486). -/
def execCheckGoFeed (m : Master) (c : Fin 2) (v : Word) (s : State) : Host.Outcome State Fault Refusal :=
  .next (writeReg m (chanKey c 0x0) (forced 0x82 0x0 v) s)

/-- CHECK_FEED (R486). -/
def execCheckFeed (m : Master) (c : Fin 2) (v : Word) (s : State) : Host.Outcome State Fault Refusal :=
  .next (writeReg m (chanKey c 0xD) v s)

/-- CHECK_FEED_B (R486). -/
def execCheckFeedB (m : Master) (c : Fin 2) (v : Word) (s : State) : Host.Outcome State Fault Refusal :=
  .next (writeReg m (chanKey c 0xE) v s)

/-- CHECK_END (R487). -/
def execCheckEnd (m : Master) (c : Fin 2) (v : Word) (s : State) : Host.Outcome State Fault Refusal :=
  .next (writeReg m (chanKey c 0x0) (forced 0x4 0x0 v) s)

/-- CHECK_DRAIN (R495). -/
def execCheckDrain (m : Master) (c : Fin 2) (v : Word) (s : State) : Host.Outcome State Fault Refusal :=
  .next (writeReg m (chanKey c 0x0) (forced 0x0 0x3 v) s)

/-- CONVOY_LINK_DISABLE (R531). -/
def execConvoyLinkDisable (m : Master) (v : Word) (s : State) : Host.Outcome State Fault Refusal :=
  .next (writeReg m 0x6000 (forced 0x0 0x100 v) s)

/-- CONVOY_FW_SEND (R550). -/
def execConvoyFwSend (m : Master) (v : Word) (s : State) : Host.Outcome State Fault Refusal :=
  .next (writeReg m 0x6028 (forced 0x80000000 0x0 v) s)

/-- CONVOY_RX_RELEASE (R551). -/
def execConvoyRxRelease (m : Master) (v : Word) (s : State) : Host.Outcome State Fault Refusal :=
  .next (writeReg m 0x6038 (forced 0x80000000 0x0 v) s)

/-- FW_ACT_GO (R565). -/
def execFwActGo (m : Master) (v : Word) (s : State) : Host.Outcome State Fault Refusal :=
  .next (writeReg m 0x8004 (forced 0x80000000 0x40000000 v) s)

/-- FW_ACT_CANCEL (R565). -/
def execFwActCancel (m : Master) (v : Word) (s : State) : Host.Outcome State Fault Refusal :=
  .next (writeReg m 0x8004 (forced 0x40000000 0x80000000 v) s)

/-- PE_ADOPT (R571). -/
def execPeAdopt (p : Fin 16) (v : Word) (s : State) : Host.Outcome State Fault Refusal :=
  .next (writeClaim p 0x8 v s)

/-- FW_READY_OK (R571). -/
def execFwReadyOk (m : Master) (v : Word) (s : State) : Host.Outcome State Fault Refusal :=
  .next (writeReg m 0x8005 (forced 0x1 0x0 v) s)

/-- FW_COMMIT (R563). -/
def execFwCommit (m : Master) (v : Word) (s : State) : Host.Outcome State Fault Refusal :=
  .next (writeReg m 0x8005 (forced 0x2 0x0 v) s)

/-- FLASH_PROGRAM (R577). -/
def execFlashProgram (m : Master) (v : Word) (s : State) : Host.Outcome State Fault Refusal :=
  .next (writeReg m 0x800B (forced 0x1 0x3 v) s)

/-- FLASH_ERASE (R577). -/
def execFlashErase (m : Master) (v : Word) (s : State) : Host.Outcome State Fault Refusal :=
  .next (writeReg m 0x800B (forced 0x2 0x3 v) s)

/-- PE_HANDOVER_KIND_A (R162). -/
def execPeHandoverKindA (p : Fin 16) (v : Word) (s : State) : Host.Outcome State Fault Refusal :=
  .next (writeClaim p 0x2 (forced 0x40000000 0xC0000000 v) s)

/-- PE_HANDOVER_KIND_B (R111). -/
def execPeHandoverKindB (p : Fin 16) (v : Word) (s : State) : Host.Outcome State Fault Refusal :=
  .next (writeClaim p 0x2 (forced 0x80000000 0xC0000000 v) s)

/-- RX_SLOT_RELEASE (R137). -/
def execRxSlotRelease (p : Fin 16) (v : Word) (s : State) : Host.Outcome State Fault Refusal :=
  .next (writeClaim p 0x6 (forced 0x1 0x0 v) s)

/-- TRANSMIT_SLOT_QUEUE (R135). -/
def execTransmitSlotQueue (p : Fin 16) (v : Word) (s : State) : Host.Outcome State Fault Refusal :=
  .next (writeClaim p 0x7 (forced 0x8 0x0 v) s)

end Sys2Proof.Machine
end

