-- ==== Sys2Proof/Machine/HostBus.lean ====
section
/-! DEFINITION. The host bus (R501–R520, R578–R580): each command is one transaction of the host to the hub, from its
START to its STOP. -/

namespace Sys2Proof.Machine

open Sys2Proof.Reg

/-! ### The register index -/

/-- The address that a host register index reaches, if it reaches any register space (R44, R578–R580). -/
def hostAddr (i : BitVec 16) : Option Word :=
  let block := i.toNat / 0x1000
  let w := i.toNat % 0x1000
  if 0x400 ≤ w ∨ block = 0xC ∨ block = 0xD then none
  else if block = 0xE then some (portAddr w)
  else if block = 0xF then some (BitVec.ofNat 32 (0xF000 + 4 * w))
  else some (regAddr i.toNat)

/-- What source 27 records for an index that reaches no register space (R503; log entry 60). -/
def noAddr (i : BitVec 16) : Word := 0xFFFF#16 ++ i

/-- The host bridge reads an index (R503). -/
def Hub.hostRead (i : BitVec 16) (h : Hub) : Word × Hub :=
  match hostAddr i with
  | some a => let r := h.readTarget .host (h.locateWide .host a 4) a 4; (r.data, r.hub)
  | none => (0, h.badAccess .host 0 (noAddr i))

/-- The host bridge writes an index (R503, R580). -/
def Hub.hostWrite (i : BitVec 16) (v : Word) (h : Hub) : Hub :=
  match hostAddr i with
  | some a => (h.writeTarget .host (h.locateWide .host a 4) a v 4).1
  | none => h.badAccess .host 1 (noAddr i)

/-- The index `n` registers on: the word offset counts modulo 4,096, the block stays (R511). -/
def nextIndex (i : BitVec 16) (n : Nat) : BitVec 16 := (i &&& 0xF000) ||| ((i + BitVec.ofNat 16 n) &&& 0xFFF)

/-- Read `n` indexes in ascending order (R507). -/
def Hub.hostReads (i : BitVec 16) : Nat → Hub → List Word × Hub
  | 0, h => ([], h)
  | n + 1, h =>
    let r := h.hostRead i
    let l := Hub.hostReads (nextIndex i 1) n r.2
    (r.1 :: l.1, l.2)

/-- Write indexes in ascending order, each judged on its own (R506). -/
def Hub.hostWrites (i : BitVec 16) : List Word → Hub → Hub
  | [], h => h
  | v :: l, h => Hub.hostWrites (nextIndex i 1) l (h.hostWrite i v)

/-- PTR. -/
def Hub.ptr (h : Hub) : BitVec 16 := BitVec.ofNat 16 (h.rd HOST_PTR.index)

/-- PTR advances after a DATA transfer (R511). -/
def Hub.advancePtr (n : Nat) (h : Hub) : Hub := h.wr HOST_PTR.index (nextIndex h.ptr n).toNat

/-- Words as bytes, least significant first (R503). -/
def wordsBytes (l : List Word) : List Byte := (l.map fun w => leBytes 4 w.toNat).flatten

/-! ### Transactions -/

/-- The bridge acknowledges its address (R502). -/
def Hub.hostListens (h : Hub) : Bool := h.power == .run && decide (7 ≤ h.rd SYS_STATUS.last_step)

/-- The codes of R504. -/
def hostCodes : List Nat := [0x01, 0x02, 0x03, 0x04, 0x08, 0x09, 0x0F, 0x10, 0x11, 0x12, 0x20]

/-- The bridge acknowledges a command byte (R502, R504). -/
def Hub.hostKnows (h : Hub) (code : Nat) : Bool :=
  if h.is SYS_STATUS.basecamp then code == 1 else hostCodes.contains code

/-- The address byte of the hub on the host bus, with its R/W bit (R501). -/
def Hub.hostByte (h : Hub) (read : Bool) : Byte := BitVec.ofNat 8 (2 * h.rd HOST_CFG.addr + read.toNat)

/-- Data bytes as a protocol carries them: a block's after their byte count. -/
def counted (block : Bool) (bytes : List Byte) : List Byte :=
  if block then BitVec.ofNat 8 bytes.length :: bytes else bytes

/-- A transaction that returns nothing. -/
def HostH.silent : HostH := ⟨[], none⟩

/-- What a read returns: its bytes, and the PEC over every byte of the transaction (R512); `sent` are the bytes between the
command byte and the repeated START. -/
def Hub.answerHost (h : Hub) (code : Nat) (sent : List Byte) (block : Bool) (bytes : List Byte) : HostH :=
  ⟨bytes, some (pec (h.hostByte false :: BitVec.ofNat 8 code :: sent ++ h.hostByte true :: counted block bytes))⟩

/-- A transaction ends, with a STOP or without one. -/
def Hub.endHost (stop : Bool) (reply : HostH) (h : Hub) : Hub :=
  let h := { h with host := reply }.wr HOST_STATUS.busy 0
  if stop then h.bump HOST_CNT.transactions else h

/-- A command byte is not acknowledged (R504). -/
def Hub.nackCommand (h : Hub) : Hub := (h.wr HOST_STATUS.cmd_nack 1).endHost true .silent

/-- A transaction with a command byte: what it does, with what it returns. -/
def Hub.transact (code : Nat) (stop : Bool) (f : Hub → HostH × Hub) (h : Hub) : Hub :=
  if !h.hostListens then h
  else if !h.hostKnows code then h.nackCommand
  else
    let r := f ((h.wr HOST_STATUS.busy 1).wr HOST_PTR.last_cmd code)
    r.2.endHost stop r.1

/-- A write is discarded for its PEC (R513): wrong, or missing. -/
def Hub.pecFails (missing : Bool) (h : Hub) : Hub :=
  ((h.wr (if missing then HOST_STATUS.pec_missing else HOST_STATUS.pec_err) 1).bump HOST_CNT.pec_errors).latchMonitor 38

/-- What a write does once its PEC has been judged against its bytes (R506, R512, R513). -/
def Hub.writeEnds (bytes : List Byte) (w : WriteEnd) (f : Hub → Hub) (h : Hub) : Hub :=
  match w with
  | .pec b => if b = pec (h.hostByte false :: bytes) then f h else h.pecFails false
  | .beyond b => if b = pec (h.hostByte false :: bytes) then h else h.pecFails false
  | .noPec => if h.is HOST_CFG.pec_required then h.pecFails true else f h
  | .cut => h

/-- A read transaction. -/
def hostGet (code : Nat) (block : Bool) (f : Hub → List Byte × Hub) (s : State) : State :=
  onHub (Hub.transact code true fun h => let r := f h; (h.answerHost code [] block r.1, r.2)) s

/-- A write transaction. -/
def hostPut (code : Nat) (block : Bool) (data : List Byte) (w : WriteEnd) (f : Hub → Hub) (s : State) : State :=
  onHub (Hub.transact code (w != .cut) fun h =>
    (.silent, h.writeEnds (BitVec.ofNat 8 code :: counted block data) w f)) s

/-- Read one register as bytes. -/
def Hub.getReg (k n : Nat) (h : Hub) : List Byte × Hub :=
  let a := regAddr k
  let r := h.readTarget .host (h.locateWide .host a 4) a 4
  (leBytes n r.data.toNat, r.hub)

/-- Write one register. -/
def Hub.putReg (k : Nat) (v : Word) (h : Hub) : Hub :=
  let a := regAddr k
  (h.writeTarget .host (h.locateWide .host a 4) a v 4).1

/-- Write a select of the host's own (R504): a value above `top` is rejected as a register write. -/
def Hub.putSel (k top : Nat) (b : BitVec 8) (h : Hub) : Hub :=
  if b.toNat ≤ top then h.putReg k (b.setWidth 32) else h.reject .host (.own k) (regAddr k)

/-! ### The commands of R504 -/

/-- FAULT_NEW holds a bit of a source at ALERT or above. -/
def Hub.alertNew (h : Hub) : Bool := allSources.any fun n => h.pairBit 0x3002 n && decide (1 ≤ h.severity n)

/-- The hub holds a place in the rack table (log entry 61). -/
def Hub.inRack (h : Hub) : Bool := h.role == roleMember || h.role == roleLeader || h.role == roleLost

/-- The bits of the status word (R505), from bit 15 down. -/
def Hub.statusBits (h : Hub) : List Bool :=
  [h.is SYS_STATUS.ready, h.is SYS_STATUS.basecamp, h.faultPinLow, h.alertNew, !h.logRing.isEmpty,
    h.is ENG_STATUS.flask, h.rd BIVOUAC_STATUS.phase != 0, h.is SYS_STATUS.card_default, h.is SUN_STATUS.mains_lost,
    h.role == roleLeader, h.inRack, h.is HOST_STATUS.whistle_pending, h.restarting, false, false, false]

/-- The status word (R505). -/
def Hub.statusWord (h : Hub) : Nat := h.statusBits.foldl (fun n b => 2 * n + b.toNat) 0

/-- HOST_STATUS (R505, R518). -/
def execHostStatus (s : State) : Host.Outcome State Fault Refusal :=
  .next (hostGet 0x01 false (fun h =>
    (leBytes 2 h.statusWord, { h with whistled := none }.wr HOST_STATUS.whistle_pending 0)) s)

/-- HOST_FAULT_LO_READ (R504). -/
def execHostFaultLoRead (s : State) : Host.Outcome State Fault Refusal := .next (hostGet 0x02 true (Hub.getReg 0x3000 4) s)

/-- HOST_FAULT_LO_WRITE (R462, R504). -/
def execHostFaultLoWrite (v : Word) (w : WriteEnd) (s : State) : Host.Outcome State Fault Refusal :=
  .next (hostPut 0x02 true (leBytes 4 v.toNat) w (Hub.putReg 0x3000 v) s)

/-- HOST_FAULT_HI_READ (R504). -/
def execHostFaultHiRead (s : State) : Host.Outcome State Fault Refusal := .next (hostGet 0x03 true (Hub.getReg 0x3001 4) s)

/-- HOST_FAULT_HI_WRITE (R462, R504). -/
def execHostFaultHiWrite (v : Word) (w : WriteEnd) (s : State) : Host.Outcome State Fault Refusal :=
  .next (hostPut 0x03 true (leBytes 4 v.toNat) w (Hub.putReg 0x3001 v) s)

/-- HOST_LOG_POP (R477): 16 bytes, or a block of 0 from an empty ring. -/
def execHostLogPop (s : State) : Host.Outcome State Fault Refusal :=
  .next (hostGet 0x04 true (fun h => (match h.logRing with | [] => [] | e :: _ => e.bytes, h.popLog .host)) s)

/-- HOST_PORT_SEL_WRITE (R44, R504). -/
def execHostPortSelWrite (b : BitVec 8) (w : WriteEnd) (s : State) : Host.Outcome State Fault Refusal :=
  .next (hostPut 0x08 false [b] w (Hub.putSel 0xF000 15 b) s)

/-- HOST_PORT_SEL_READ (R504). -/
def execHostPortSelRead (s : State) : Host.Outcome State Fault Refusal := .next (hostGet 0x08 false (Hub.getReg 0xF000 1) s)

/-- HOST_QUAD_SEL_WRITE (R44, R504). -/
def execHostQuadSelWrite (b : BitVec 8) (w : WriteEnd) (s : State) : Host.Outcome State Fault Refusal :=
  .next (hostPut 0x09 false [b] w (Hub.putSel 0xF001 3 b) s)

/-- HOST_QUAD_SEL_READ (R504). -/
def execHostQuadSelRead (s : State) : Host.Outcome State Fault Refusal := .next (hostGet 0x09 false (Hub.getReg 0xF001 1) s)

/-- HOST_SIGNPOST_PAGE (R508). -/
def execHostSignpostPage (b : BitVec 8) (w : WriteEnd) (s : State) : Host.Outcome State Fault Refusal :=
  .next (hostPut 0x0F false [b] w (Hub.wr HOST_PTR.page b.toNat) s)

/-- A Signpost page (R508): above page 32 a block of 0, and no advance. -/
def Hub.readPage (h : Hub) : List Byte × Hub :=
  let page := h.rd HOST_PTR.page
  if page ≤ 32 then (h.memBytes (0xF000 + 32 * page) 32, h.wr HOST_PTR.page (page + 1)) else ([], h)

/-- HOST_SIGNPOST_READ (R508). -/
def execHostSignpostRead (s : State) : Host.Outcome State Fault Refusal := .next (hostGet 0x0F true Hub.readPage s)

/-- HOST_PTR_WRITE (R504). -/
def execHostPtrWrite (i : BitVec 16) (w : WriteEnd) (s : State) : Host.Outcome State Fault Refusal :=
  .next (hostPut 0x10 false (leBytes 2 i.toNat) w (Hub.wr HOST_PTR.index i.toNat) s)

/-- HOST_PTR_READ (R504). -/
def execHostPtrRead (s : State) : Host.Outcome State Fault Refusal :=
  .next (hostGet 0x10 false (fun h => (leBytes 2 h.ptr.toNat, h)) s)

/-- The registers that a DATA byte count stands for, if R509 allows it. -/
def dataCount (count : Nat) : Option Nat :=
  if count % 4 = 0 ∧ 4 ≤ count ∧ count ≤ 32 then some (count / 4) else none

/-- The end of a DATA write of `n` registers when more words follow them: the next byte is taken as the PEC (R513). -/
def dataEnd (n : Nat) (vs : List Word) (w : WriteEnd) : WriteEnd :=
  match vs.drop n with
  | [] => w
  | x :: _ => .beyond (x.setWidth 8)

/-- HOST_DATA_WRITE (R506, R509–R511, R513): too few registers discard the write, and PTR advances even so. -/
def execHostDataWrite (count : BitVec 8) (vs : List Word) (w : WriteEnd) (s : State) :
    Host.Outcome State Fault Refusal :=
  .next (onHub (Hub.transact 0x11 (w != .cut) fun h =>
    match dataCount count.toNat with
    | none => (.silent, h.wr HOST_STATUS.count_err 1)
    | some n =>
      let g := if vs.length < n then h
        else h.writeEnds (0x11 :: count :: wordsBytes (vs.take n)) (dataEnd n vs w) (Hub.hostWrites h.ptr (vs.take n))
      (.silent, g.advancePtr n)) s)

/-- Read `n` registers from PTR, and advance it. -/
def Hub.readData (n : Nat) (h : Hub) : List Byte × Hub :=
  let r := Hub.hostReads h.ptr n h
  (wordsBytes r.1, r.2.advancePtr n)

/-- HOST_DATA_PROCESS_CALL (R509–R512). -/
def execHostDataProcessCall (n : BitVec 8) (s : State) : Host.Outcome State Fault Refusal :=
  .next (onHub (Hub.transact 0x11 true fun h =>
    if 1 ≤ n.toNat ∧ n.toNat ≤ 8 then
      let r := h.readData n.toNat
      (h.answerHost 0x11 [1, n] true r.1, r.2)
    else (.silent, h.wr HOST_STATUS.count_err 1)) s)

/-- HOST_DATA_READ (R507, R509, R511). -/
def execHostDataRead (s : State) : Host.Outcome State Fault Refusal := .next (hostGet 0x11 true (Hub.readData 1) s)

/-- HOST_DATA1_WRITE (R504, R506). -/
def execHostData1Write (v : Word) (w : WriteEnd) (s : State) : Host.Outcome State Fault Refusal :=
  .next (hostPut 0x12 false (leBytes 4 v.toNat) w (fun h => h.hostWrite h.ptr v) s)

/-- HOST_DATA1_READ (R504, R507). -/
def execHostData1Read (s : State) : Host.Outcome State Fault Refusal :=
  .next (hostGet 0x12 false (fun h => let r := h.hostRead h.ptr; (leBytes 4 r.1.toNat, r.2)) s)

/-- Registers of the selected port, in order. -/
def Hub.getPortRegs : List Nat → Hub → List Byte × Hub
  | [], h => ([], h)
  | w :: l, h =>
    let a := portAddr w
    let r := h.readTarget .host (h.locateWide .host a 4) a 4
    let x := Hub.getPortRegs l r.hub
    (leBytes 4 r.data.toNat ++ x.1, x.2)

/-- HOST_HAMPER_QUERY (R504): PORT_LEDGER, PORT_HELD, PORT_HSTATE and PORT_RAMP. -/
def execHostHamperQuery (s : State) : Host.Outcome State Fault Refusal :=
  .next (hostGet 0x20 true (Hub.getPortRegs [0x20, 0x21, 0x22, 0x23]) s)

/-- HOST_CMD_NACK (R504): nothing for a code that is acknowledged. -/
def execHostCmdNack (code : BitVec 8) (s : State) : Host.Outcome State Fault Refusal :=
  .next (onHub (fun h => if h.hostListens && !h.hostKnows code.toNat then h.nackCommand else h) s)

end Sys2Proof.Machine
end

