-- ==== Sys2Proof/Machine/Dispatch.lean ====
section
/-! DEFINITION. The meaning of each command. -/

namespace Sys2Proof.Machine

/-- What a command does: one arm for each row of the opcode table. -/
def exec (i : Instr) (s : State) : Host.Outcome State Fault Refusal :=
  match i with
  | .add e rd ra rb => Sys2Proof.Machine.execAdd e rd ra rb s
  | .sub e rd ra rb => Sys2Proof.Machine.execSub e rd ra rb s
  | .and e rd ra rb => Sys2Proof.Machine.execAnd e rd ra rb s
  | .or e rd ra rb => Sys2Proof.Machine.execOr e rd ra rb s
  | .xor e rd ra rb => Sys2Proof.Machine.execXor e rd ra rb s
  | .slt e rd ra rb => Sys2Proof.Machine.execSlt e rd ra rb s
  | .sltu e rd ra rb => Sys2Proof.Machine.execSltu e rd ra rb s
  | .neg e rd ra => Sys2Proof.Machine.execNeg e rd ra s
  | .sadd e rd ra rb => Sys2Proof.Machine.execSadd e rd ra rb s
  | .ssub e rd ra rb => Sys2Proof.Machine.execSsub e rd ra rb s
  | .shl e rd ra rb => Sys2Proof.Machine.execShl e rd ra rb s
  | .shr e rd ra rb => Sys2Proof.Machine.execShr e rd ra rb s
  | .sar e rd ra rb => Sys2Proof.Machine.execSar e rd ra rb s
  | .rot e rd ra rb => Sys2Proof.Machine.execRot e rd ra rb s
  | .mul e rd ra rb => Sys2Proof.Machine.execMul e rd ra rb s
  | .mulh e rd ra rb => Sys2Proof.Machine.execMulh e rd ra rb s
  | .mulhu e rd ra rb => Sys2Proof.Machine.execMulhu e rd ra rb s
  | .div e rd ra rb => Sys2Proof.Machine.execDiv e rd ra rb s
  | .divu e rd ra rb => Sys2Proof.Machine.execDivu e rd ra rb s
  | .rem e rd ra rb => Sys2Proof.Machine.execRem e rd ra rb s
  | .remu e rd ra rb => Sys2Proof.Machine.execRemu e rd ra rb s
  | .addi e rd ra imm => Sys2Proof.Machine.execAddi e rd ra imm s
  | .andi e rd ra imm => Sys2Proof.Machine.execAndi e rd ra imm s
  | .ori e rd ra imm => Sys2Proof.Machine.execOri e rd ra imm s
  | .xori e rd ra imm => Sys2Proof.Machine.execXori e rd ra imm s
  | .slti e rd ra imm => Sys2Proof.Machine.execSlti e rd ra imm s
  | .sltiu e rd ra imm => Sys2Proof.Machine.execSltiu e rd ra imm s
  | .lui e rd imm => Sys2Proof.Machine.execLui e rd imm s
  | .shli e rd ra amt => Sys2Proof.Machine.execShli e rd ra amt s
  | .shri e rd ra amt => Sys2Proof.Machine.execShri e rd ra amt s
  | .sari e rd ra amt => Sys2Proof.Machine.execSari e rd ra amt s
  | .roti e rd ra amt => Sys2Proof.Machine.execRoti e rd ra amt s
  | .ldw e rd ra off => Sys2Proof.Machine.execLdw e rd ra off s
  | .ldh e rd ra off => Sys2Proof.Machine.execLdh e rd ra off s
  | .ldhu e rd ra off => Sys2Proof.Machine.execLdhu e rd ra off s
  | .ldb e rd ra off => Sys2Proof.Machine.execLdb e rd ra off s
  | .ldbu e rd ra off => Sys2Proof.Machine.execLdbu e rd ra off s
  | .stw e rd ra off => Sys2Proof.Machine.execStw e rd ra off s
  | .sth e rd ra off => Sys2Proof.Machine.execSth e rd ra off s
  | .stb e rd ra off => Sys2Proof.Machine.execStb e rd ra off s
  | .beq e ra rb disp => Sys2Proof.Machine.execBeq e ra rb disp s
  | .bne e ra rb disp => Sys2Proof.Machine.execBne e ra rb disp s
  | .blt e ra rb disp => Sys2Proof.Machine.execBlt e ra rb disp s
  | .bge e ra rb disp => Sys2Proof.Machine.execBge e ra rb disp s
  | .bltu e ra rb disp => Sys2Proof.Machine.execBltu e ra rb disp s
  | .bgeu e ra rb disp => Sys2Proof.Machine.execBgeu e ra rb disp s
  | .jmp e disp => Sys2Proof.Machine.execJmp e disp s
  | .call e disp => Sys2Proof.Machine.execCall e disp s
  | .pushl e mask => Sys2Proof.Machine.execPushl e mask s
  | .popl e mask => Sys2Proof.Machine.execPopl e mask s
  | .pushh e mask => Sys2Proof.Machine.execPushh e mask s
  | .poph e mask => Sys2Proof.Machine.execPoph e mask s
  | .ret e => Sys2Proof.Machine.execRet e s
  | .jmpr e reg => Sys2Proof.Machine.execJmpr e reg s
  | .callr e reg => Sys2Proof.Machine.execCallr e reg s
  | .addsp e operand => Sys2Proof.Machine.execAddsp e operand s
  | .nop e => Sys2Proof.Machine.execNop e s
  | .mfc e reg ctl => Sys2Proof.Machine.execMfc e reg ctl s
  | .mtc e reg ctl => Sys2Proof.Machine.execMtc e reg ctl s
  | .trap e operand => Sys2Proof.Machine.execTrap e operand s
  | .brk e => Sys2Proof.Machine.execBrk e s
  | .eret e => Sys2Proof.Machine.execEret e s
  | .wait e => Sys2Proof.Machine.execWait e s
  | .fence e => Sys2Proof.Machine.execFence e s
  | .reservedEncoding e w => Sys2Proof.Machine.execReservedEncoding e w s
  | .absentUnitAccess m addr write v => Sys2Proof.Machine.execAbsentUnitAccess m addr write v s
  | .busErrorAccess m addr width write v => Sys2Proof.Machine.execBusErrorAccess m addr width write v s
  | .registerWrite m addr v => Sys2Proof.Machine.execRegisterWrite m addr v s
  | .portSelWrite m v => Sys2Proof.Machine.execPortSelWrite m v s
  | .quadSelWrite m v => Sys2Proof.Machine.execQuadSelWrite m v s
  | .aczEdge held => Sys2Proof.Machine.execAczEdge held s
  | .syncEdge held => Sys2Proof.Machine.execSyncEdge held s
  | .holdoverStart => Sys2Proof.Machine.execHoldoverStart s
  | .mainsLost => Sys2Proof.Machine.execMainsLost s
  | .sundialUnlocked => Sys2Proof.Machine.execSundialUnlocked s
  | .syncPulse => Sys2Proof.Machine.execSyncPulse s
  | .slotReq m v => Sys2Proof.Machine.execSlotReq m v s
  | .slotCancel m v => Sys2Proof.Machine.execSlotCancel m v s
  | .slotFired slot => Sys2Proof.Machine.execSlotFired slot s
  | .sundialWrap => Sys2Proof.Machine.execSundialWrap s
  | .sunCycleRead m => Sys2Proof.Machine.execSunCycleRead m s
  | .halfCycleLatch h => Sys2Proof.Machine.execHalfCycleLatch h s
  | .ccOvervoltage p lane => Sys2Proof.Machine.execCcOvervoltage p lane s
  | .drpToggle p => Sys2Proof.Machine.execDrpToggle p s
  | .ccTerminationSeen p a b => Sys2Proof.Machine.execCcTerminationSeen p a b s
  | .watchDetection p lane t => Sys2Proof.Machine.execWatchDetection p lane t s
  | .ccDebounceExpiry p => Sys2Proof.Machine.execCcDebounceExpiry p s
  | .pdDebounceExpiry p => Sys2Proof.Machine.execPdDebounceExpiry p s
  | .drpTryExpiry p => Sys2Proof.Machine.execDrpTryExpiry p s
  | .tryTimeoutExpiry p => Sys2Proof.Machine.execTryTimeoutExpiry p s
  | .vbusVsafe5vReached p => Sys2Proof.Machine.execVbusVsafe5vReached p s
  | .vbusOnTimeout p => Sys2Proof.Machine.execVbusOnTimeout p s
  | .vconnOvercurrent p => Sys2Proof.Machine.execVconnOvercurrent p s
  | .vconnSupplyLost => Sys2Proof.Machine.execVconnSupplyLost s
  | .vconnSupplyRestored => Sys2Proof.Machine.execVconnSupplyRestored s
  | .sourceDetach p => Sys2Proof.Machine.execSourceDetach p s
  | .sinkDetach p => Sys2Proof.Machine.execSinkDetach p s
  | .detachWindowClose p => Sys2Proof.Machine.execDetachWindowClose p s
  | .dischargeTimeout p => Sys2Proof.Machine.execDischargeTimeout p s
  | .vsafe0vReached p => Sys2Proof.Machine.execVsafe0vReached p s
  | .restElapsed p => Sys2Proof.Machine.execRestElapsed p s
  | .portEnableClear m v => Sys2Proof.Machine.execPortEnableClear m v s
  | .drainHardResetExpiry p => Sys2Proof.Machine.execDrainHardResetExpiry p s
  | .portEnableSet m v => Sys2Proof.Machine.execPortEnableSet m v s
  | .portRecover m v => Sys2Proof.Machine.execPortRecover m v s
  | .goodcrcReceived p => Sys2Proof.Machine.execGoodcrcReceived p s
  | .frameCrcError p => Sys2Proof.Machine.execFrameCrcError p s
  | .ignoredFrame p kind => Sys2Proof.Machine.execIgnoredFrame p kind s
  | .treceiveExpiry p => Sys2Proof.Machine.execTreceiveExpiry p s
  | .chunkTimeout p => Sys2Proof.Machine.execChunkTimeout p s
  | .speculativeClaim p epr r => Sys2Proof.Machine.execSpeculativeClaim p epr r s
  | .requestReceived p f epr r => Sys2Proof.Machine.execRequestReceived p f epr r s
  | .sourceCapabilitiesReceived p f epr pdos => Sys2Proof.Machine.execSourceCapabilitiesReceived p f epr pdos s
  | .sinkCapabilitiesReceived p f epr pdos => Sys2Proof.Machine.execSinkCapabilitiesReceived p f epr pdos s
  | .getSourceCapReceived p f => Sys2Proof.Machine.execGetSourceCapReceived p f s
  | .getSinkCapReceived p f => Sys2Proof.Machine.execGetSinkCapReceived p f s
  | .acceptReceived p f => Sys2Proof.Machine.execAcceptReceived p f s
  | .rejectReceived p f => Sys2Proof.Machine.execRejectReceived p f s
  | .waitReceived p f => Sys2Proof.Machine.execWaitReceived p f s
  | .psRdyReceived p f => Sys2Proof.Machine.execPsRdyReceived p f s
  | .softResetReceived p f => Sys2Proof.Machine.execSoftResetReceived p f s
  | .hardResetReceived p => Sys2Proof.Machine.execHardResetReceived p s
  | .getStatusReceived p f => Sys2Proof.Machine.execGetStatusReceived p f s
  | .getPpsStatusReceived p f => Sys2Proof.Machine.execGetPpsStatusReceived p f s
  | .getSourceCapExtReceived p f => Sys2Proof.Machine.execGetSourceCapExtReceived p f s
  | .getSinkCapExtReceived p f => Sys2Proof.Machine.execGetSinkCapExtReceived p f s
  | .alertReceived p f battery => Sys2Proof.Machine.execAlertReceived p f battery s
  | .statusDataReceived p f k => Sys2Proof.Machine.execStatusDataReceived p f k s
  | .eprModeEnterReceived p f => Sys2Proof.Machine.execEprModeEnterReceived p f s
  | .eprModeExitReceived p f => Sys2Proof.Machine.execEprModeExitReceived p f s
  | .eprKeepaliveReceived p f => Sys2Proof.Machine.execEprKeepaliveReceived p f s
  | .eprGetCapReceived p f source => Sys2Proof.Machine.execEprGetCapReceived p f source s
  | .discoverIdentityReceived p f => Sys2Proof.Machine.execDiscoverIdentityReceived p f s
  | .vdmResponseReceived p f id => Sys2Proof.Machine.execVdmResponseReceived p f id s
  | .unsupportedMessageReceived p f k => Sys2Proof.Machine.execUnsupportedMessageReceived p f k s
  | .notSupportedReceived p f => Sys2Proof.Machine.execNotSupportedReceived p f s
  | .bistReceived p f => Sys2Proof.Machine.execBistReceived p f s
  | .discoverIdentityRetry p => Sys2Proof.Machine.execDiscoverIdentityRetry p s
  | .srcCapsResend p => Sys2Proof.Machine.execSrcCapsResend p s
  | .senderResponseTimeout p => Sys2Proof.Machine.execSenderResponseTimeout p s
  | .batteryPoll p => Sys2Proof.Machine.execBatteryPoll p s
  | .ppsTimeout p => Sys2Proof.Machine.execPpsTimeout p s
  | .eprSourceTimeout p => Sys2Proof.Machine.execEprSourceTimeout p s
  | .sinkWaitRetry p => Sys2Proof.Machine.execSinkWaitRetry p s
  | .sinkPsRdyTimeout p => Sys2Proof.Machine.execSinkPsRdyTimeout p s
  | .sinkPpsRefresh p => Sys2Proof.Machine.execSinkPpsRefresh p s
  | .sinkEprKeepalive p => Sys2Proof.Machine.execSinkEprKeepalive p s
  | .sinkTxNgExpiry p => Sys2Proof.Machine.execSinkTxNgExpiry p s
  | .hardResetVbusOff p => Sys2Proof.Machine.execHardResetVbusOff p s
  | .hardResetRecover p => Sys2Proof.Machine.execHardResetRecover p s
  | .sinkHardResetTimeout p => Sys2Proof.Machine.execSinkHardResetTimeout p s
  | .loweringSetpoint p => Sys2Proof.Machine.execLoweringSetpoint p s
  | .transitionComplete p => Sys2Proof.Machine.execTransitionComplete p s
  | .psRdyTimer p => Sys2Proof.Machine.execPsRdyTimer p s
  | .cutLimitExpiry p => Sys2Proof.Machine.execCutLimitExpiry p s
  | .claimImplicit p v => Sys2Proof.Machine.execClaimImplicit p v s
  | .claimRequest p v => Sys2Proof.Machine.execClaimRequest p v s
  | .claimStandby p v => Sys2Proof.Machine.execClaimStandby p v s
  | .claimConfirm p v => Sys2Proof.Machine.execClaimConfirm p v s
  | .claimWithdraw p v => Sys2Proof.Machine.execClaimWithdraw p v s
  | .promptHoldExpiry p => Sys2Proof.Machine.execPromptHoldExpiry p s
  | .hubDerateWrite m v => Sys2Proof.Machine.execHubDerateWrite m v s
  | .quadDerateWrite m q v => Sys2Proof.Machine.execQuadDerateWrite m q v s
  | .audit => Sys2Proof.Machine.execAudit s
  | .rampPosition slot => Sys2Proof.Machine.execRampPosition slot s
  | .overrideStart p => Sys2Proof.Machine.execOverrideStart p s
  | .hamperVeto m v => Sys2Proof.Machine.execHamperVeto m v s
  | .auxClaim m v => Sys2Proof.Machine.execAuxClaim m v s
  | .auxRelease m v => Sys2Proof.Machine.execAuxRelease m v s
  | .rackShareApply => Sys2Proof.Machine.execRackShareApply s
  | .swapGoPr m v => Sys2Proof.Machine.execSwapGoPr m v s
  | .swapGoDr m v => Sys2Proof.Machine.execSwapGoDr m v s
  | .swapGoVconn m v => Sys2Proof.Machine.execSwapGoVconn m v s
  | .prSwapReceived p f => Sys2Proof.Machine.execPrSwapReceived p f s
  | .drSwapReceived p f => Sys2Proof.Machine.execDrSwapReceived p f s
  | .vconnSwapReceived p f => Sys2Proof.Machine.execVconnSwapReceived p f s
  | .swapWaitRetry p => Sys2Proof.Machine.execSwapWaitRetry p s
  | .prSwapSourceOff p => Sys2Proof.Machine.execPrSwapSourceOff p s
  | .prSwapPsRdyTimeout p => Sys2Proof.Machine.execPrSwapPsRdyTimeout p s
  | .vconnSwapLaneReady p => Sys2Proof.Machine.execVconnSwapLaneReady p s
  | .vconnSwapTimeout p => Sys2Proof.Machine.execVconnSwapTimeout p s
  | .frsSignal p => Sys2Proof.Machine.execFrsSignal p s
  | .frsSourceStart p => Sys2Proof.Machine.execFrsSourceStart p s
  | .frSwapReceived p f => Sys2Proof.Machine.execFrSwapReceived p f s
  | .vhubIslandTrigger => Sys2Proof.Machine.execVhubIslandTrigger s
  | .bivouacForce m v => Sys2Proof.Machine.execBivouacForce m v s
  | .bivouacDisable m v => Sys2Proof.Machine.execBivouacDisable m v s
  | .frsSignalEnd p => Sys2Proof.Machine.execFrsSignalEnd p s
  | .feedVbusPresent p => Sys2Proof.Machine.execFeedVbusPresent p s
  | .frsNoSource p => Sys2Proof.Machine.execFrsNoSource p s
  | .returnDelayExpiry => Sys2Proof.Machine.execReturnDelayExpiry s
  | .bivouacExit m v => Sys2Proof.Machine.execBivouacExit m v s
  | .stageCfgWrite m v => Sys2Proof.Machine.execStageCfgWrite m v s
  | .fswApply p => Sys2Proof.Machine.execFswApply p s
  | .coefIWrite m n v => Sys2Proof.Machine.execCoefIWrite m n v s
  | .stageVsetWrite m v => Sys2Proof.Machine.execStageVsetWrite m v s
  | .stageIlimWrite m v => Sys2Proof.Machine.execStageIlimWrite m v s
  | .currentLimitEntry p => Sys2Proof.Machine.execCurrentLimitEntry p s
  | .currentLimitExit p => Sys2Proof.Machine.execCurrentLimitExit p s
  | .ovpDetect r => Sys2Proof.Machine.execOvpDetect r s
  | .uvpDetect r => Sys2Proof.Machine.execUvpDetect r s
  | .loopSaturation p => Sys2Proof.Machine.execLoopSaturation p s
  | .overtemperature p => Sys2Proof.Machine.execOvertemperature p s
  | .stageModeOff m v => Sys2Proof.Machine.execStageModeOff m v s
  | .stageModeForward m v => Sys2Proof.Machine.execStageModeForward m v s
  | .stageModeReverse m v => Sys2Proof.Machine.execStageModeReverse m v s
  | .reverseEqualise p vbus => Sys2Proof.Machine.execReverseEqualise p vbus s
  | .nodeReady p => Sys2Proof.Machine.execNodeReady p s
  | .stageFrsArm m v => Sys2Proof.Machine.execStageFrsArm m v s
  | .dischargeTest m v => Sys2Proof.Machine.execDischargeTest m v s
  | .drainComplete p => Sys2Proof.Machine.execDrainComplete p s
  | .drainTimeout p => Sys2Proof.Machine.execDrainTimeout p s
  | .hkReferenceFault q => Sys2Proof.Machine.execHkReferenceFault q s
  | .stageTelem1Read m => Sys2Proof.Machine.execStageTelem1Read m s
  | .inrushComplete p => Sys2Proof.Machine.execInrushComplete p s
  | .inrushTimeout p => Sys2Proof.Machine.execInrushTimeout p s
  | .passLimitEntry p => Sys2Proof.Machine.execPassLimitEntry p s
  | .fastTrip p => Sys2Proof.Machine.execFastTrip p s
  | .soaTrip p => Sys2Proof.Machine.execSoaTrip p s
  | .gateStuck p => Sys2Proof.Machine.execGateStuck p s
  | .leakGo m v => Sys2Proof.Machine.execLeakGo m v s
  | .leakPlateauStep p => Sys2Proof.Machine.execLeakPlateauStep p s
  | .leakProbeDone p follows => Sys2Proof.Machine.execLeakProbeDone p follows s
  | .passEnClear m v => Sys2Proof.Machine.execPassEnClear m v s
  | .passEnSet m v => Sys2Proof.Machine.execPassEnSet m v s
  | .portFaultClear m v => Sys2Proof.Machine.execPortFaultClear m v s
  | .powerOnReset cause => Sys2Proof.Machine.execPowerOnReset cause s
  | .lockoutRelease r => Sys2Proof.Machine.execLockoutRelease r s
  | .startupSunTimeout => Sys2Proof.Machine.execStartupSunTimeout s
  | .readyReached => Sys2Proof.Machine.execReadyReached s
  | .vsysLow => Sys2Proof.Machine.execVsysLow s
  | .cardErase m v => Sys2Proof.Machine.execCardErase m v s
  | .cardEraseDone => Sys2Proof.Machine.execCardEraseDone s
  | .watchGo m v => Sys2Proof.Machine.execWatchGo m v s
  | .watchAutoEntry => Sys2Proof.Machine.execWatchAutoEntry s
  | .watchWake cause => Sys2Proof.Machine.execWatchWake cause s
  | .shipGo m v => Sys2Proof.Machine.execShipGo m v s
  | .shipWake cause => Sys2Proof.Machine.execShipWake cause s
  | .wdtKick m v => Sys2Proof.Machine.execWdtKick m v s
  | .supervisorWatchdog b => Sys2Proof.Machine.execSupervisorWatchdog b s
  | .restartA m v => Sys2Proof.Machine.execRestartA m v s
  | .restartB m v => Sys2Proof.Machine.execRestartB m v s
  | .flaskRestart => Sys2Proof.Machine.execFlaskRestart s
  | .flaskExpired => Sys2Proof.Machine.execFlaskExpired s
  | .supervisorHalt m v => Sys2Proof.Machine.execSupervisorHalt m v s
  | .supervisorHalted b => Sys2Proof.Machine.execSupervisorHalted b s
  | .supervisorBRelease m v => Sys2Proof.Machine.execSupervisorBRelease m v s
  | .peRunClear m v => Sys2Proof.Machine.execPeRunClear m v s
  | .peRunSet m v => Sys2Proof.Machine.execPeRunSet m v s
  | .peKick p v => Sys2Proof.Machine.execPeKick p v s
  | .peWatchdog p => Sys2Proof.Machine.execPeWatchdog p s
  | .scrubRead => Sys2Proof.Machine.execScrubRead s
  | .memZero m v => Sys2Proof.Machine.execMemZero m v s
  | .irq e => Sys2Proof.Machine.execIrq e s
  | .timeCmpMatch e => Sys2Proof.Machine.execTimeCmpMatch e s
  | .faultStatusClear m hi v => Sys2Proof.Machine.execFaultStatusClear m hi v s
  | .faultNewClear m hi v => Sys2Proof.Machine.execFaultNewClear m hi v s
  | .faultForce m hi v => Sys2Proof.Machine.execFaultForce m hi v s
  | .faultSevWrite m k v => Sys2Proof.Machine.execFaultSevWrite m k v s
  | .logPop m => Sys2Proof.Machine.execLogPop m s
  | .logWrite m v => Sys2Proof.Machine.execLogWrite m v s
  | .flashRingWrite => Sys2Proof.Machine.execFlashRingWrite s
  | .vhubOver => Sys2Proof.Machine.execVhubOver s
  | .vhubUnder => Sys2Proof.Machine.execVhubUnder s
  | .dieTempWarning => Sys2Proof.Machine.execDieTempWarning s
  | .dieTempShutdown => Sys2Proof.Machine.execDieTempShutdown s
  | .clockFault => Sys2Proof.Machine.execClockFault s
  | .buckFault => Sys2Proof.Machine.execBuckFault s
  | .debugAccess => Sys2Proof.Machine.execDebugAccess s
  | .checkGoScan m c v => Sys2Proof.Machine.execCheckGoScan m c v s
  | .checkGoFeed m c v => Sys2Proof.Machine.execCheckGoFeed m c v s
  | .checkFeed m c v => Sys2Proof.Machine.execCheckFeed m c v s
  | .checkFeedB m c v => Sys2Proof.Machine.execCheckFeedB m c v s
  | .checkEnd m c v => Sys2Proof.Machine.execCheckEnd m c v s
  | .checkDone c => Sys2Proof.Machine.execCheckDone c s
  | .checkDrain m c v => Sys2Proof.Machine.execCheckDrain m c v s
  | .hostStatus => Sys2Proof.Machine.execHostStatus s
  | .hostFaultLoRead => Sys2Proof.Machine.execHostFaultLoRead s
  | .hostFaultLoWrite v w => Sys2Proof.Machine.execHostFaultLoWrite v w s
  | .hostFaultHiRead => Sys2Proof.Machine.execHostFaultHiRead s
  | .hostFaultHiWrite v w => Sys2Proof.Machine.execHostFaultHiWrite v w s
  | .hostLogPop => Sys2Proof.Machine.execHostLogPop s
  | .hostPortSelWrite b w => Sys2Proof.Machine.execHostPortSelWrite b w s
  | .hostPortSelRead => Sys2Proof.Machine.execHostPortSelRead s
  | .hostQuadSelWrite b w => Sys2Proof.Machine.execHostQuadSelWrite b w s
  | .hostQuadSelRead => Sys2Proof.Machine.execHostQuadSelRead s
  | .hostSignpostPage b w => Sys2Proof.Machine.execHostSignpostPage b w s
  | .hostSignpostRead => Sys2Proof.Machine.execHostSignpostRead s
  | .hostPtrWrite idx w => Sys2Proof.Machine.execHostPtrWrite idx w s
  | .hostPtrRead => Sys2Proof.Machine.execHostPtrRead s
  | .hostDataWrite count vs w => Sys2Proof.Machine.execHostDataWrite count vs w s
  | .hostDataProcessCall n => Sys2Proof.Machine.execHostDataProcessCall n s
  | .hostDataRead => Sys2Proof.Machine.execHostDataRead s
  | .hostData1Write v w => Sys2Proof.Machine.execHostData1Write v w s
  | .hostData1Read => Sys2Proof.Machine.execHostData1Read s
  | .hostHamperQuery => Sys2Proof.Machine.execHostHamperQuery s
  | .hostCmdNack code => Sys2Proof.Machine.execHostCmdNack code s
  | .hostWakeAddress => Sys2Proof.Machine.execHostWakeAddress s
  | .busClockTimeout bus => Sys2Proof.Machine.execBusClockTimeout bus s
  | .busDataTimeout bus => Sys2Proof.Machine.execBusDataTimeout bus s
  | .whistle => Sys2Proof.Machine.execWhistle s
  | .whistleAbort => Sys2Proof.Machine.execWhistleAbort s
  | .convoyFrameStart result => Sys2Proof.Machine.execConvoyFrameStart result s
  | .convoyBackoffExpiry result => Sys2Proof.Machine.execConvoyBackoffExpiry result s
  | .convoyFrameDiscard cause => Sys2Proof.Machine.execConvoyFrameDiscard cause s
  | .convoyBusClear released => Sys2Proof.Machine.execConvoyBusClear released s
  | .busClearRetry released => Sys2Proof.Machine.execBusClearRetry released s
  | .convoyLinkDisable m v => Sys2Proof.Machine.execConvoyLinkDisable m v s
  | .leaderElection => Sys2Proof.Machine.execLeaderElection s
  | .budgetRoundStart => Sys2Proof.Machine.execBudgetRoundStart s
  | .pollReceived from_ round cycle budget present mayLead => Sys2Proof.Machine.execPollReceived from_ round cycle budget present mayLead s
  | .helloReceived from_ mayLead lim => Sys2Proof.Machine.execHelloReceived from_ mayLead lim s
  | .joinAckReceived from_ handover joiner round cycle => Sys2Proof.Machine.execJoinAckReceived from_ handover joiner round cycle s
  | .joinRefusedReceived from_ site refused retry => Sys2Proof.Machine.execJoinRefusedReceived from_ site refused retry s
  | .helloRetry => Sys2Proof.Machine.execHelloRetry s
  | .leaveReceived from_ => Sys2Proof.Machine.execLeaveReceived from_ s
  | .demandReceived from_ round d => Sys2Proof.Machine.execDemandReceived from_ round d s
  | .shareCompute => Sys2Proof.Machine.execShareCompute s
  | .shareReceived from_ round high present shares => Sys2Proof.Machine.execShareReceived from_ round high present shares s
  | .roundMissed => Sys2Proof.Machine.execRoundMissed s
  | .shareHoldExpiry => Sys2Proof.Machine.execShareHoldExpiry s
  | .handoverLastSync => Sys2Proof.Machine.execHandoverLastSync s
  | .handoverSyncStart => Sys2Proof.Machine.execHandoverSyncStart s
  | .convoyFwSend m v => Sys2Proof.Machine.execConvoyFwSend m v s
  | .fwMsgRx sender broadcast type_ payload => Sys2Proof.Machine.execFwMsgRx sender broadcast type_ payload s
  | .convoyRxRelease m v => Sys2Proof.Machine.execConvoyRxRelease m v s
  | .denocSessionOpen baud => Sys2Proof.Machine.execDenocSessionOpen baud s
  | .denocSessionTimeout => Sys2Proof.Machine.execDenocSessionTimeout s
  | .denocFrameError head => Sys2Proof.Machine.execDenocFrameError head s
  | .denocInfo seq => Sys2Proof.Machine.execDenocInfo seq s
  | .denocEraseSlot seq slot => Sys2Proof.Machine.execDenocEraseSlot seq slot s
  | .slotErased => Sys2Proof.Machine.execSlotErased s
  | .denocWrite seq offset bytes => Sys2Proof.Machine.execDenocWrite seq offset bytes s
  | .denocVerify seq slot => Sys2Proof.Machine.execDenocVerify seq slot s
  | .imageVerified => Sys2Proof.Machine.execImageVerified s
  | .denocSchedule seq cycle angle flags => Sys2Proof.Machine.execDenocSchedule seq cycle angle flags s
  | .denocActivateNow seq slot => Sys2Proof.Machine.execDenocActivateNow seq slot s
  | .denocReadLog seq first rows => Sys2Proof.Machine.execDenocReadLog seq first rows s
  | .denocEnterBasecamp seq key => Sys2Proof.Machine.execDenocEnterBasecamp seq key s
  | .denocUnknownType seq type_ => Sys2Proof.Machine.execDenocUnknownType seq type_ s
  | .fwActGo m v => Sys2Proof.Machine.execFwActGo m v s
  | .fwActCancel m v => Sys2Proof.Machine.execFwActCancel m v s
  | .warmRestart => Sys2Proof.Machine.execWarmRestart s
  | .activationSkipped => Sys2Proof.Machine.execActivationSkipped s
  | .peAdopt p v => Sys2Proof.Machine.execPeAdopt p v s
  | .fwReadyOk m v => Sys2Proof.Machine.execFwReadyOk m v s
  | .warmRestartTimeout => Sys2Proof.Machine.execWarmRestartTimeout s
  | .fwCommit m v => Sys2Proof.Machine.execFwCommit m v s
  | .flashProgram m v => Sys2Proof.Machine.execFlashProgram m v s
  | .flashErase m v => Sys2Proof.Machine.execFlashErase m v s
  | .flashOpDone ok => Sys2Proof.Machine.execFlashOpDone ok s
  | .peHandoverKindA p v => Sys2Proof.Machine.execPeHandoverKindA p v s
  | .peHandoverKindB p v => Sys2Proof.Machine.execPeHandoverKindB p v s
  | .rxSlotRelease p v => Sys2Proof.Machine.execRxSlotRelease p v s
  | .transmitSlotQueue p v => Sys2Proof.Machine.execTransmitSlotQueue p v s
  | .sinkVbusDetected p => Sys2Proof.Machine.execSinkVbusDetected p s
  | .burstDetect p => Sys2Proof.Machine.execBurstDetect p s
  | .vconnReverseBlock p => Sys2Proof.Machine.execVconnReverseBlock p s

end Sys2Proof.Machine
end

