-- ==== Sys2Proof/Machine/Tick.lean ====
section
/-! DEFINITION. What a step does on an empty queue: one tick of Sundial time and of the core clock that goes with it, with the
conversions and loop updates of the stages that fall into it (log entry 6). Nothing else happens by itself: every expiry,
edge and crossing is a command. -/

namespace Sys2Proof.Machine

/-- One tick while the hub is not held in reset; the Sundial stands in Ship mode (R371). The tick in which the cycle number
wraps logs it (R87), as SUNDIAL_WRAP does. -/
def idleTick (s : State) : State :=
  if s.hub.up then
    let run := fun (h : Hub) => h.tick.runStages h.sun.clk
    if s.hub.sun.cycle = 0xFFFFFFFF ∧ s.hub.sun.angle = 0xFFFF then applyHub run s
    else { s with hub := run s.hub }
  else s

end Sys2Proof.Machine
end

