-- ==== Sys2Proof/WellFormed.lean ====
section
/-! DEFINITION. What makes a command well formed, before any state: an instruction of chapter 11 is one that its
engine's encodings admit (R413–R415, R434, R441); a received frame is one that the protocol can carry; a
termination, a message count and a payload lie in their ranges. The machine gives every command a meaning, well formed
or not: an ill-formed instruction takes the trap of its word (R414). -/

namespace Sys2Proof

/-- A frame that can arrive (R136–R139): at most 7 data objects, or an extended message whose chunk holds at most 26
bytes of at most 260. -/
def RxFrame.wf (f : RxFrame) : Bool :=
  if f.extended then decide (f.size ≤ 260) && decide (f.data.length ≤ 65) && (f.chunked || !f.moreChunks)
  else !f.chunked && !f.moreChunks && decide (f.data.length ≤ 7)

/-- A termination that a lane can show: an Rp has level 1 to 3 (R91). -/
def Term.wf : Term → Bool
  | .rp l => l.val != 0
  | _ => true

/-- The frame a command carries, if it carries one. -/
def frameOf : Instr → Option RxFrame
  | .requestReceived _ f _ _ | .sourceCapabilitiesReceived _ f _ _ | .sinkCapabilitiesReceived _ f _ _
  | .getSourceCapReceived _ f | .getSinkCapReceived _ f | .acceptReceived _ f | .rejectReceived _ f
  | .waitReceived _ f | .psRdyReceived _ f | .softResetReceived _ f | .getStatusReceived _ f
  | .getPpsStatusReceived _ f | .getSourceCapExtReceived _ f | .getSinkCapExtReceived _ f | .alertReceived _ f _
  | .statusDataReceived _ f _ | .eprModeEnterReceived _ f | .eprModeExitReceived _ f | .eprKeepaliveReceived _ f
  | .eprGetCapReceived _ f _ | .discoverIdentityReceived _ f | .vdmResponseReceived _ f _
  | .unsupportedMessageReceived _ f _ | .notSupportedReceived _ f | .bistReceived _ f | .prSwapReceived _ f
  | .drSwapReceived _ f | .vconnSwapReceived _ f | .frSwapReceived _ f => some f
  | _ => none

/-- The engine of an instruction of chapter 11. -/
def engineOf : Instr → Option (Fin 18)
  | .add e _ _ _ | .sub e _ _ _ | .and e _ _ _ | .or e _ _ _ | .xor e _ _ _ | .slt e _ _ _ | .sltu e _ _ _
  | .neg e _ _ | .sadd e _ _ _ | .ssub e _ _ _ | .shl e _ _ _ | .shr e _ _ _ | .sar e _ _ _ | .rot e _ _ _
  | .mul e _ _ _ | .mulh e _ _ _ | .mulhu e _ _ _ | .div e _ _ _ | .divu e _ _ _ | .rem e _ _ _ | .remu e _ _ _
  | .addi e _ _ _ | .andi e _ _ _ | .ori e _ _ _ | .xori e _ _ _ | .slti e _ _ _ | .sltiu e _ _ _ | .lui e _ _
  | .shli e _ _ _ | .shri e _ _ _ | .sari e _ _ _ | .roti e _ _ _ | .ldw e _ _ _ | .ldh e _ _ _ | .ldhu e _ _ _
  | .ldb e _ _ _ | .ldbu e _ _ _ | .stw e _ _ _ | .sth e _ _ _ | .stb e _ _ _ | .beq e _ _ _ | .bne e _ _ _
  | .blt e _ _ _ | .bge e _ _ _ | .bltu e _ _ _ | .bgeu e _ _ _ | .jmp e _ | .call e _ | .pushl e _ | .popl e _
  | .pushh e _ | .poph e _ | .ret e | .jmpr e _ | .callr e _ | .addsp e _ | .nop e | .mfc e _ _ | .mtc e _ _
  | .trap e _ | .brk e | .eret e | .wait e | .fence e | .reservedEncoding e _ => some e
  | _ => none

/-- The operands of an instruction are ones that its encoding on its engine admits. -/
def wfBurjo : Instr → Bool
  | .add e rd ra rb => hasReg e rd && hasReg e ra && hasReg e rb && !(rd == 0 && ra == 0 && rb == 0)
  | .sub e rd ra rb | .and e rd ra rb | .or e rd ra rb | .xor e rd ra rb | .slt e rd ra rb | .sltu e rd ra rb
  | .sadd e rd ra rb | .ssub e rd ra rb | .shl e rd ra rb | .shr e rd ra rb | .sar e rd ra rb | .rot e rd ra rb
  | .mul e rd ra rb | .mulh e rd ra rb | .mulhu e rd ra rb | .div e rd ra rb | .divu e rd ra rb | .rem e rd ra rb
  | .remu e rd ra rb => hasReg e rd && hasReg e ra && hasReg e rb
  | .neg e rd ra | .shli e rd ra _ | .shri e rd ra _ | .sari e rd ra _ | .roti e rd ra _ | .addi e rd ra _
  | .andi e rd ra _ | .ori e rd ra _ | .xori e rd ra _ | .slti e rd ra _ | .sltiu e rd ra _ | .ldw e rd ra _
  | .ldh e rd ra _ | .ldhu e rd ra _ | .ldb e rd ra _ | .ldbu e rd ra _ | .stw e rd ra _ | .sth e rd ra _
  | .stb e rd ra _ | .beq e rd ra _ | .bne e rd ra _ | .blt e rd ra _ | .bge e rd ra _ | .bltu e rd ra _
  | .bgeu e rd ra _ => hasReg e rd && hasReg e ra
  | .lui e rd _ => hasReg e rd
  | .pushl _ m | .popl _ m => m != 0 && !m.getLsbD 0
  | .pushh e m | .poph e m => m != 0 && decide (16 ≤ e.val)
  | .jmpr e r | .callr e r => hasReg e r
  | .addsp _ x => x.extractLsb' 0 2 == 0
  | .mfc e r c => hasReg e r && ctlReads c
  | .mtc e r c => hasReg e r && ctlWrites c
  | .reservedEncoding e w => (decodeBurjo e w).isNone
  | _ => true

/-- A command is well formed. -/
def wellFormed (i : Instr) : Bool :=
  wfBurjo i && (match frameOf i with | some f => f.wf | none => true) &&
    (match i with
      | .ccTerminationSeen _ a b => a.wf && b.wf
      | .watchDetection _ _ t => t.wf
      | .fwMsgRx _ _ t pl => decide (32 ≤ t.toNat ∧ t.toNat ≤ 63) && decide (pl.length ≤ 32)
      | _ => true)

end Sys2Proof
end

