-- ==== Sys2Proof/Safety.lean ====
section
/-! DEFINITION. The terms that claims use: a hub with nothing left to work off, an engine that stands at an
instruction, the invariant of engines, and which commands reach an engine at all. -/

namespace Sys2Proof.Machine

open Sys2Proof.Reg

/-! ### A hub with nothing left to work off -/

/-- No port stands in a state that the power mode does not keep (R98, R370). -/
def Hub.modeKept (h : Hub) : Bool :=
  match h.power with
  | .run => h.presentPorts.all fun p => h.tc p != tcWatch
  | .watch => h.presentPorts.all fun p => !searching (h.tc p)
  | _ => true

/-- Nothing waits to be worked off when a command ends: no overwrite to latch (R475), no port due for safe state (R628),
no feeding port lost (R265), no Alert owed (R142), nothing freed in the ledger (R204, R206), no engine released (R412), no
return to go on with (R270), no port to bring into the power mode (R370), no warm restart that keeps records (R570). -/
def Hub.settled (h : Hub) : Bool :=
  h.overruns == 0 && h.safeDue.isEmpty && h.lostFeeds.isEmpty && h.alertsDue.isEmpty && !(h.freed || h.entryFreed) &&
    h.resets.isEmpty &&
    (h.rd BIVOUAC_STATUS.phase != 3 || h.prSwapping) && h.modeKept && !h.restarting

/-- The state in which a command ends that brings the hub to `h`: what waits to be worked off is worked off, and the engines
that the command releases are reset (R412). -/
def ends (h : Hub) (s : State) : State := applyHub (fun _ => h) s

/-- The hub is up, neither held in reset nor in Ship mode, and has the port (R1, R344, R371). -/
def portUp (p : Fin 16) (s : State) : Bool := s.hub.up && s.hub.present p

/-! ### Messages -/

/-- Port `p` takes frame `f` as a message to act on (R129–R131, R137–R139): the port is attached with messaging on, the frame
is of PD 2.0 or later, on SOP or, for a VCONN source, on SOP', no repetition and no chunk that others follow, at most 26
bytes where it is unchunked, a ring
slot is free, and the auto-responder does not hold the port (R569). -/
def Hub.takes (p : Fin 16) (f : RxFrame) (h : Hub) : Bool :=
  h.attached p && (h.port p).pdOn && f.rev != .rev1 &&
    (f.sop == .sop || f.sop == .sopP && h.vconnSource p) && decide ((h.port p).ringCount < 8) &&
    h.lastId p f != some f.id && !(f.extended && f.chunked && f.moreChunks) &&
    !(f.extended && !f.chunked && decide (26 < f.size)) && !isChunkRequest f && !h.autoHeld p

/-- What taking a frame leaves before the message acts: counted, stamped and stored in the ring (R129, R136), reassembly
done with (R138), and an AMS of the hub's own that has not started called off (R135). -/
def Hub.took (p : Fin 16) (f : RxFrame) (h : Hub) : Hub := ((h.arrived p).openFrame p f).cancelOwn p

/-! ### Denoc and the host bus -/

/-- A Denoc command frame that is next in order while no job runs: it is executed (R554, R557). -/
def Hub.inOrder (seq : BitVec 8) (h : Hub) : Bool :=
  h.session && h.jobSeq.isNone && (h.fw.lastSeq == none || h.fw.lastSeq == some (seq - 1))

/-- What a frame in order leaves before its command acts. -/
def Hub.counted (seq : BitVec 8) (h : Hub) : Hub := h.heard.accept seq

/-- A transaction of the host has begun with a command byte (R502, R504). -/
def Hub.begun (code : Nat) (h : Hub) : Hub := (h.wr HOST_STATUS.busy 1).wr HOST_PTR.last_cmd code

/-! ### Writes of registers -/

/-- A master other than a port engine. -/
def notPe : Master → Bool
  | .pe _ => false
  | _ => true

/-- A master's write of a register that exists once is legal (R2, R497, R582–R587): the part has it, the master makes
accesses and may write it, the hub does not hold it, and the value holds no reserved code. -/
def Hub.takesWrite (m : Master) (k : Nat) (v : Word) (h : Hub) : Bool :=
  h.issues m && notPe m && h.hubTarget k == .hub k && mayWrite m k && !(match chanOf k with | some c => h.holdsChan c | none => false) &&
    h.hubLegal m k v && (match findRow hubRows k with | some r => h.rowLegal r k v | none => false)

/-- A master's write of a register that it has for itself is legal. -/
def Hub.takesOwn (m : Master) (w : Nat) (v : Word) (h : Hub) : Bool :=
  h.issues m && notPe m && match findRow masterRows w with | some r => r.legalValue v | none => false

/-- A write of a register of the port that the master's window shows is legal. -/
def Hub.takesPort (m : Master) (w : Nat) (v : Word) (h : Hub) : Bool :=
  h.issues m && h.present (h.portSel m) && h.portLegal (h.portSel m) w v &&
    match findRow portPortRows w with | some r => r.legalValue v | none => false

/-- A port engine's write of its claim interface is legal. -/
def Hub.takesClaim (p : Fin 16) (w : Nat) (v : Word) (h : Hub) : Bool :=
  h.issues (.pe p) && h.claimLegal p w v &&
    match findRow claimClaimRows w with | some r => r.legalValue v | none => false

/-- The bits of a register that software may write take a value, and the W1C bits written 1 clear (R16). -/
def Hub.stored (k : Nat) (v : Word) (h : Hub) : Hub :=
  match findRow hubRows k with | some r => h.storeReg k r v | none => h

/-- The same of a register that a master has for itself. -/
def Hub.storedOwn (m : Master) (w : Nat) (v : Word) (h : Hub) : Hub :=
  match findRow masterRows w with | some r => h.storeReg (masterKey m w) r v | none => h

/-! ### Engines -/

/-- Engine `e` issues what stands at its pc: the engine runs and does not wait, and the word there can be fetched (R377,
R378, R400, R406). -/
def canIssue (e : Fin 18) (s : State) : Bool :=
  s.hub.runsCode e && !s.engines[e].waiting &&
    match fetchAddr e s.engines[e].pc with
    | some a => s.hub.cleanWord a
    | none => false

/-- Engine `e` stands at instruction `i` and issues it: the instruction has an encoding on it (R413). -/
def atInstr (e : Fin 18) (i : Instr) (s : State) : Bool :=
  canIssue e s && (decodeBurjo e ((encodeBurjo i).getD 0)).isSome

/-- Engine `e` has run from `s` to `t`: the hub, the queue and every other engine are as they were. -/
def ranOn (e : Fin 18) (s t : State) : Prop :=
  t.hub = s.hub ∧ t.pending = s.pending ∧ ∀ d : Fin 18, d ≠ e → t.engines[d] = s.engines[d]

/-- A register `r` of an engine after a write of `v` to `rd`: g0 keeps its zero (R412). -/
def regAfter (rd r : Fin 32) (v old : Word) : Word := if r = rd ∧ rd ≠ 0 then v else old

/-- All that an instruction does whose result `v` goes to `rd`: the register holds it, unless it is g0; the pc goes on to
the next instruction; every other register, control register and byte is as it was. -/
def wroteReg (e : Fin 18) (rd : Fin 32) (v : Word) (s t : State) : Prop :=
  ranOn e s t ∧ t.engines[e].pc = s.engines[e].pc + 4 ∧
    (∀ r : Fin 32, t.engines[e].reg r = regAfter rd r v (s.engines[e].reg r)) ∧
    t.engines[e].ctl = s.engines[e].ctl ∧ t.engines[e].rstack = s.engines[e].rstack ∧
    t.engines[e].waiting = s.engines[e].waiting ∧ t.engines[e].timeBase = s.engines[e].timeBase ∧
    t.engines[e].traps = s.engines[e].traps

/-- All that an instruction does which only moves the engine's pc, to `pc`, and its return stack, to `stack`. -/
def wentTo (e : Fin 18) (pc : Word) (stack : List Word) (s t : State) : Prop :=
  ranOn e s t ∧ t.engines[e].pc = pc ∧ t.engines[e].rstack = stack ∧
    (∀ r : Fin 32, t.engines[e].reg r = s.engines[e].reg r) ∧ t.engines[e].ctl = s.engines[e].ctl ∧
    t.engines[e].waiting = s.engines[e].waiting ∧ t.engines[e].timeBase = s.engines[e].timeBase ∧
    t.engines[e].traps = s.engines[e].traps

/-- The engine can take a synchronous trap: no trap is in progress (R447), and on a port engine the trap is not one more
than storm_max within the last millisecond of core time (R397, R453). -/
def canTrap (e : Fin 18) (s : State) : Bool :=
  !s.engines[e].flag 2 2 &&
    (isSup e || decide ((recentTraps s.hub.sun.clk s.engines[e].traps).length ≤ s.hub.rd PE_CFG.storm_max))

/-- All that a synchronous trap does to the engine it is taken on (R445): the TRAP registers, ie into pie, in_trap set, the
vector's address in the pc; general registers, return stack and every other control register are as they were. The flags are
those of TRAP_CAUSE: 0x100 poison, 0x200 overflow, 0x400 write. -/
def tookTrap (e : Fin 18) (code flags : Nat) (insn addr : Word) (s t : State) : Prop :=
  t.engines[e].ctl[ctlTrapPc] = s.engines[e].pc ∧ t.engines[e].ctl[ctlTrapInsn] = insn ∧
    t.engines[e].ctl[ctlTrapAddr] = addr ∧
    t.engines[e].ctl[ctlTrapCause] = BitVec.ofNat 32 (code + flags) ∧
    t.engines[e].flag 2 2 = true ∧ t.engines[e].flag 2 0 = false ∧ t.engines[e].flag 2 1 = s.engines[e].flag 2 0 ∧
    t.engines[e].pc = s.engines[e].ctl[ctlTrapVec] + BitVec.ofNat 32 (0x20 * code) ∧
    (∀ n : Fin 16, n.val ≠ 2 → (n.val < 4 ∨ 7 < n.val) → t.engines[e].ctl[n] = s.engines[e].ctl[n]) ∧
    (∀ r : Fin 32, t.engines[e].reg r = s.engines[e].reg r) ∧ t.engines[e].rstack = s.engines[e].rstack ∧
    t.engines[e].timeBase = s.engines[e].timeBase

/-- What holds of an engine at all times: its return stack is no deeper than R438 allows, the register behind g0 holds
zero (R412), and the bits that a control register does not have read zero (R441). -/
def engineOk (e : Fin 18) (x : Engine) : Bool :=
  decide (x.rstack.length ≤ stackSize e) && x.regs[0] == 0 &&
    (List.finRange 16).all fun n => x.ctl[n] &&& ~~~ctlBits n.val == 0

/-- What holds of every engine. -/
def State.enginesOk (s : State) : Bool := (List.finRange 18).all fun e => engineOk e s.engines[e]

/-- The commands that reach an engine's own registers: its instructions, its interrupts, and a supervisor's accesses to
its core-private space (R399). Every other command leaves an engine as it is, or releases it anew. -/
def reachesEngine : Instr → Bool
  | .irq _ | .timeCmpMatch _ => true
  | .registerWrite .. | .busErrorAccess .. | .absentUnitAccess .. => true
  | i => (engineOf i).isSome

end Sys2Proof.Machine
end

