-- ==== Sys2Proof/Certificates/Slice0/Obligations.lean ====
section
/-! DEFINITION. The statements for the provers. Each is about one command, or several of one shape, over every state that
its hypotheses admit; `ends h s` is the state in which a command ends that brings the hub to `h`. -/

open Sys2Proof Sys2Proof.Machine Sys2Proof.Reg

/-! ### The queue, reset, and all commands -/

/-- A step takes the command in front of the queue and is that command on the state with the queue's rest. -/
def Obligations.StepRunsFront : Prop :=
  ∀ (c : Instr) (rest : List Instr) (s : State),
    s.pending = c :: rest → step s = exec c { s with pending := rest }

/-- With an empty queue the Sundial's time goes on by one tick (R55) on a hub that runs, with the conversions and loop updates
that fall into it, and nothing else comes of it but the wrap of the cycle number (R87): ledger, Logbook, memory, engines, and
each port's Type-C state, timers and frames are as they were. A hub that is held in reset or in Ship mode stays as it is.
That a step on an empty queue is a tick is the model's choice (log entry 6). -/
def Obligations.EmptyQueueTicks : Prop :=
  ∀ s : State, s.pending = [] →
    let wraps := s.hub.sun.cycle = 0xFFFFFFFF ∧ s.hub.sun.angle = 0xFFFF
    (s.hub.up = false → step s = .next s) ∧ (s.hub.up = true → wraps → step s = .next (ends (s.hub.tick.runStages s.hub.sun.clk) s)) ∧
    (s.hub.up = true → ¬ wraps →
      ∃ t, step s = .next t ∧ t.pending = [] ∧ t.engines = s.engines ∧ t.hub.mem = s.hub.mem ∧
        t.hub.sun.angle = s.hub.sun.angle + 1 ∧ t.hub.sun.ticks = s.hub.sun.ticks + 1 ∧
        t.hub.sun.cycle = (if s.hub.sun.angle = 0xFFFF then s.hub.sun.cycle + 1 else s.hub.sun.cycle) ∧
        t.hub.ledger = s.hub.ledger ∧ t.hub.logRing = s.hub.logRing ∧
        ∀ p, t.hub.tc p = s.hub.tc p ∧ (t.hub.port p).timers = (s.hub.port p).timers ∧
          (t.hub.port p).txq = (s.hub.port p).txq)

/-- Power-on reset as the spec gives it (R344–R346, R383, R412, R482): no command waits, no entry of the ledger is used and
every total is 0, the Logbook is empty, the Sundial stands at cycle 0 and angle 0, every port is DEAD_BATTERY, supervisor A
starts from boot ROM, and what holds of engines at all times holds. -/
def Obligations.ResetState : Prop :=
  State.reset.pending = [] ∧ State.reset.hub.up = false ∧ State.reset.hub.logRing = [] ∧
    State.reset.hub.sun.cycle = 0 ∧ State.reset.hub.sun.angle = 0 ∧
    (∀ i : Fin 64, State.reset.hub.es[i].st = .free) ∧
    (∀ n : Fin 21, State.reset.hub.ledger.totals[n].committed = 0 ∧ State.reset.hub.ledger.totals[n].tentative = 0 ∧
      State.reset.hub.ledger.totals[n].standby = 0) ∧
    (∀ p : Fin 16, State.reset.hub.tc p = 1) ∧
    (∀ n : Fin 64, State.reset.hub.latched n.val = false) ∧
    State.reset.engines[(16 : Fin 18)].pc = 0 ∧ State.reset.enginesOk = true

/-- Every command completes: none ends in a fault or a refusal, whatever the state, and none touches the commands that
wait behind it. -/
def Obligations.EveryCommandCompletes : Prop :=
  ∀ (c : Instr) (s : State), ∃ t, exec c s = .next t ∧ t.pending = s.pending

/-- Every step keeps what holds of the engines (R412, R438, R441): the return stacks stay within their depth, g0's register
holds zero, and no bit stands in a control register that does not have it. -/
def Obligations.EnginesStayInOrder : Prop :=
  ∀ s t : State, s.enginesOk = true → step s = .next t → t.enginesOk = true

/-- The commands other than an engine's instructions and interrupts, and accesses that may reach a supervisor's private space
(R399), leave each engine as it is or release it anew (R412): what it computes, no other command changes. -/
def Obligations.OnlyTheseReachEngines : Prop :=
  ∀ (c : Instr) (s t : State) (e : Fin 18), reachesEngine c = false → exec c s = .next t →
    t.engines[e] = s.engines[e] ∨ ∃ pc now, t.engines[e] = Engine.fresh pc now

/-! ### Engines: the instructions of chapter 11 -/

/-- The words that the worked examples and the tables of chapter 11 give name the instructions they stand for, and the
word 0 and a word that names g16 on a port engine name none (R411, R413, R415–R418, R433, R440). -/
def Obligations.WordsNameInstructions : Prop :=
  decodeBurjo 16 0x04611000 = some (.mul 16 3 1 2) ∧ decodeBurjo 16 0x2063270F = some (.addi 16 3 3 9999) ∧
    decodeBurjo 16 0x28802710 = some (.ori 16 4 0 10000) ∧ decodeBurjo 16 0x04232004 = some (.divu 16 1 3 4) ∧
    decodeBurjo 16 0xF8040000 = some (.ret 16) ∧ decodeBurjo 0 0x00000000 = none ∧
    decodeBurjo 16 0x02000000 = some (.add 16 16 0 0) ∧ decodeBurjo 3 0x02000000 = none ∧
    decodeBurjo 3 0x60A40008 = some (.ldw 3 5 4 8) ∧ decodeBurjo 3 0x88A4FFFF = some (.stb 3 5 4 0xFFFF) ∧
    decodeBurjo 3 0xA022FFFE = some (.beq 3 1 2 0xFFFE) ∧ decodeBurjo 3 0xBC000003 = some (.call 3 3) ∧
    decodeBurjo 3 0xF8000006 = some (.pushl 3 6) ∧ decodeBurjo 17 0xF8020001 = some (.pushh 17 1) ∧
    decodeBurjo 3 0xF8020001 = none ∧ decodeBurjo 3 0xFC010000 = some (.mfc 3 0 0) ∧ decodeBurjo 3 0xFC020000 = none

/-- Every instruction with operands that its encoding on its engine admits is read back from its own word: no bit of an
encoding is dropped (R411–R418, R433, R434, R440, R441). -/
def Obligations.InstructionsReadBack : Prop :=
  ∀ (i : Instr) (e : Fin 18), engineOf i = some e → wfBurjo i = true → (∀ w, i ≠ .reservedEncoding e w) →
    ∃ w, encodeBurjo i = some w ∧ decodeBurjo e w = some i

/-- The two-operand instructions of R417, NEG and the saturating ones leave in rd, unless it is g0, the result that R417,
R420 and R424 give of ra and rb; the pc goes on by 4, and nothing else changes. MUL, MULH and MULHU leave bits of the
64-bit product (R418, R420); a division by zero with divz_trap at 0 gives 0xFFFF_FFFF and the dividend (R422), and
every other one the quotient rounded towards zero and its remainder, 0x8000_0000 and 0 for 0x8000_0000 by −1 (R421);
the pc goes on by 4, and nothing else changes. -/
def Obligations.ArithmeticResults : Prop :=
  (∀ (e : Fin 18) (rd ra rb : Fin 32) (s : State) (i : Instr) (f : Word → Word → Word),
     (i, f) ∈ ([(Instr.add e rd ra rb, fun a b => a + b), (Instr.sub e rd ra rb, fun a b => a - b),
       (Instr.and e rd ra rb, fun a b => a &&& b), (Instr.or e rd ra rb, fun a b => a ||| b),
       (Instr.xor e rd ra rb, fun a b => a ^^^ b),
       (Instr.slt e rd ra rb, fun a b => if a.toInt < b.toInt then 1 else 0),
       (Instr.sltu e rd ra rb, fun a b => if a.toNat < b.toNat then 1 else 0),
       (Instr.neg e rd ra, fun a _ => -a),
       (Instr.sadd e rd ra rb, fun a b => BitVec.ofInt 32 (max (-0x80000000) (min 0x7FFFFFFF (a.toInt + b.toInt)))),
       (Instr.ssub e rd ra rb, fun a b => BitVec.ofInt 32 (max (-0x80000000) (min 0x7FFFFFFF (a.toInt - b.toInt))))] : List (Instr × (Word → Word → Word))) →
     atInstr e i s = true →
     ∃ t, exec i s = .next t ∧ wroteReg e rd (f (regOf e ra s) (regOf e rb s)) s t) ∧
  (∀ (e : Fin 18) (rd ra rb : Fin 32) (s : State) (i : Instr) (f : Word → Word → Word),
     (i, f) ∈ ([(Instr.mul e rd ra rb, fun a b => (a.setWidth 64 * b.setWidth 64).extractLsb' 0 32),
       (Instr.mulh e rd ra rb, fun a b => (a.signExtend 64 * b.signExtend 64).extractLsb' 32 32),
       (Instr.mulhu e rd ra rb, fun a b => (a.setWidth 64 * b.setWidth 64).extractLsb' 32 32)] : List (Instr × (Word → Word → Word))) ∨
     ((regOf e rb s ≠ 0 ∨ s.engines[e].flag 1 0 = false) ∧
       (i, f) ∈ ([(Instr.div e rd ra rb, fun a b => if b = 0 then 0xFFFFFFFF else a.sdiv b),
         (Instr.divu e rd ra rb, fun a b => if b = 0 then 0xFFFFFFFF else a / b),
         (Instr.rem e rd ra rb, fun a b => if b = 0 then a else a.srem b),
         (Instr.remu e rd ra rb, fun a b => if b = 0 then a else a % b)] : List (Instr × (Word → Word → Word)))) →
     atInstr e i s = true →
     ∃ t, exec i s = .next t ∧ wroteReg e rd (f (regOf e ra s) (regOf e rb s)) s t)

/-- Shifts by a whole register and by an amount of 0 to 31 (R423): an amount of 32 or more gives 0, or the sign of ra for
SAR; ROT turns right by rb mod 32; the pc goes on by 4, and nothing else changes. -/
def Obligations.ShiftResults : Prop :=
  ∀ (e : Fin 18) (rd ra rb : Fin 32) (amt : BitVec 5) (s : State) (i : Instr) (f : Word → Word → Word),
    (i, f) ∈ ([(Instr.shl e rd ra rb, fun a b => if 32 ≤ b.toNat then 0 else a <<< b.toNat),
      (Instr.shr e rd ra rb, fun a b => if 32 ≤ b.toNat then 0 else a >>> b.toNat),
      (Instr.sar e rd ra rb, fun a b =>
        if 32 ≤ b.toNat then (if 0 ≤ a.toInt then 0x00000000 else 0xFFFFFFFF) else a.sshiftRight b.toNat),
      (Instr.rot e rd ra rb, fun a b => (a ++ a).extractLsb' (b.toNat % 32) 32),
      (Instr.shli e rd ra amt, fun a _ => a <<< amt.toNat), (Instr.shri e rd ra amt, fun a _ => a >>> amt.toNat),
      (Instr.sari e rd ra amt, fun a _ => a.sshiftRight amt.toNat),
      (Instr.roti e rd ra amt, fun a _ => (a ++ a).extractLsb' amt.toNat 32)] : List (Instr × (Word → Word → Word))) →
    atInstr e i s = true →
    ∃ t, exec i s = .next t ∧ wroteReg e rd (f (regOf e ra s) (regOf e rb s)) s t

/-- The instructions of R419 extend their immediate by its sign or with zeros, LUI puts it in the upper half; the pc goes
on by 4, and nothing else changes. -/
def Obligations.ImmediateResults : Prop :=
  ∀ (e : Fin 18) (rd ra : Fin 32) (imm : BitVec 16) (s : State) (i : Instr) (f : Word → Word),
    (i, f) ∈ ([(Instr.addi e rd ra imm, fun a => a + imm.signExtend 32),
      (Instr.andi e rd ra imm, fun a => a &&& imm.setWidth 32), (Instr.ori e rd ra imm, fun a => a ||| imm.setWidth 32),
      (Instr.xori e rd ra imm, fun a => a ^^^ imm.setWidth 32),
      (Instr.slti e rd ra imm, fun a => if a.toInt < imm.toInt then 1 else 0),
      (Instr.sltiu e rd ra imm, fun a => if a.toNat < (imm.signExtend 32).toNat then 1 else 0),
      (Instr.lui e rd imm, fun _ => imm.setWidth 32 <<< 16)] : List (Instr × (Word → Word))) →
    atInstr e i s = true → ∃ t, exec i s = .next t ∧ wroteReg e rd (f (regOf e ra s)) s t

/-- A load from memory that its engine's view has (R399, R425), at an aligned address, in a word that is neither poisoned
nor upset: rd, unless it is g0, takes the bytes, least significant first, extended as the instruction says; the pc goes on
by 4, and nothing else changes. -/
def Obligations.LoadsFromMemory : Prop :=
  ∀ (e : Fin 18) (rd ra : Fin 32) (off : BitVec 16) (s : State) (i : Instr) (n b : Nat) (f : Word → Word),
    (i, n, f) ∈ ([(Instr.ldw e rd ra off, 4, fun w => w), (Instr.ldh e rd ra off, 2, fun w => (w.setWidth 16).signExtend 32),
      (Instr.ldhu e rd ra off, 2, fun w => w), (Instr.ldb e rd ra off, 1, fun w => (w.setWidth 8).signExtend 32),
      (Instr.ldbu e rd ra off, 1, fun w => w)] : List (Instr × Nat × (Word → Word))) →
    atInstr e i s = true → s.hub.settled = true → (regOf e ra s + off.signExtend 32).toNat % n = 0 →
    s.hub.locate (engineMaster e) (regOf e ra s + off.signExtend 32) = .memory b → s.hub.cleanWord b = true →
    ∃ t, exec i s = .next t ∧ wroteReg e rd (f (BitVec.ofNat 32 (s.hub.memNat b n))) s t

/-- A store to memory that its engine may write (R380, R399, R400, R425), at an aligned address, in a word that is neither
poisoned nor upset: the bytes of rd, least significant first, stand at the address; the engine's pc goes on by 4; every
other byte, every register of the hub, and everything else of every engine is as it was. -/
def Obligations.StoresToMemory : Prop :=
  ∀ (e : Fin 18) (rd ra : Fin 32) (off : BitVec 16) (s : State) (i : Instr) (n b : Nat),
    (i, n) ∈ [(Instr.stw e rd ra off, 4), (Instr.sth e rd ra off, 2), (Instr.stb e rd ra off, 1)] →
    atInstr e i s = true → s.hub.settled = true → (regOf e ra s + off.signExtend 32).toNat % n = 0 →
    s.hub.locate (engineMaster e) (regOf e ra s + off.signExtend 32) = .memory b → s.hub.mayStore b = true →
    s.hub.cleanWord b = true →
    ∃ t, exec i s = .next t ∧ t.pending = s.pending ∧
      (∀ k, k < n → t.hub.memByte (b + k) = ((regOf e rd s) >>> (8 * k)).setWidth 8) ∧
      (∀ a, a < b ∨ b + n ≤ a → t.hub.memByte a = s.hub.memByte a) ∧
      (∃ m, t.hub = { s.hub with mem := m }) ∧ wentTo e (s.engines[e].pc + 4) s.engines[e].rstack { s with hub := t.hub } t

/-- An access at an address that is not a multiple of its width, and a jump to a register's address that is not a multiple
of 4, trap with cause ALIGN (R426, R432, R443, R445): no access, no register written, nothing pushed. TRAP takes the
cause SYSCALL, BREAK with brk_halt at 0 the cause BREAK (R440, R444, R452), a division by zero with divz_trap at 1 the
cause DIVZ (R422), and a word that no instruction has the cause UNDEF (R414); each entry saves the instruction's own
address and word, and changes no general register (R443, R445). -/
def Obligations.TrapsTaken : Prop :=
  (∀ (e : Fin 18) (rd ra : Fin 32) (off : BitVec 16) (s : State) (i : Instr) (a : Word) (n : Nat) (write : Bool),
     (i, a, n, write) ∈ [(Instr.ldw e rd ra off, regOf e ra s + off.signExtend 32, 4, false),
       (Instr.ldh e rd ra off, regOf e ra s + off.signExtend 32, 2, false),
       (Instr.ldhu e rd ra off, regOf e ra s + off.signExtend 32, 2, false),
       (Instr.stw e rd ra off, regOf e ra s + off.signExtend 32, 4, true),
       (Instr.sth e rd ra off, regOf e ra s + off.signExtend 32, 2, true),
       (Instr.jmpr e ra, regOf e ra s, 4, false), (Instr.callr e ra, regOf e ra s, 4, false)] →
     atInstr e i s = true → canTrap e s = true → a.toNat % n ≠ 0 →
     ∃ t, exec i s = .next t ∧ ranOn e s t ∧ tookTrap e 1 (if write then 0x400 else 0) ((encodeBurjo i).getD 0) a s t) ∧
  (∀ (e : Fin 18) (operand : BitVec 16) (rd ra rb : Fin 32) (w : Word) (s : State), canTrap e s = true →
     (atInstr e (.trap e operand) s = true → ∃ t, exec (.trap e operand) s = .next t ∧ ranOn e s t ∧
       tookTrap e 8 0 ((0xFC03 : BitVec 16) ++ operand) 0 s t) ∧
     (atInstr e (.brk e) s = true → s.engines[e].flag 1 1 = false → ∃ t, exec (.brk e) s = .next t ∧ ranOn e s t ∧
       tookTrap e 9 0 0xFC040000 0 s t) ∧
     (∀ i ∈ [Instr.div e rd ra rb, Instr.divu e rd ra rb, Instr.rem e rd ra rb, Instr.remu e rd ra rb],
       atInstr e i s = true → regOf e rb s = 0 → s.engines[e].flag 1 0 = true →
       ∃ t, exec i s = .next t ∧ ranOn e s t ∧ tookTrap e 5 0 ((encodeBurjo i).getD 0) 0 s t) ∧
     (canIssue e s = true → decodeBurjo e w = none →
       ∃ t, exec (.reservedEncoding e w) s = .next t ∧ ranOn e s t ∧ tookTrap e 0 0 w 0 s t))

/-- A branch goes to its own address + 4 × disp if its condition holds, else on by 4; JMP goes to its own address + 4 ×
its 26-bit disp, JMPR to the aligned address in its register; nothing else changes (R431, R432). -/
def Obligations.BranchesAndJumps : Prop :=
  ∀ (e : Fin 18) (ra rb : Fin 32) (disp : BitVec 16) (far : BitVec 26) (s : State) (i : Instr),
    (∀ c : Bool, (i, c) ∈ [(Instr.beq e ra rb disp, decide (regOf e ra s = regOf e rb s)),
      (Instr.bne e ra rb disp, decide (regOf e ra s ≠ regOf e rb s)),
      (Instr.blt e ra rb disp, decide ((regOf e ra s).toInt < (regOf e rb s).toInt)),
      (Instr.bge e ra rb disp, decide ((regOf e rb s).toInt ≤ (regOf e ra s).toInt)),
      (Instr.bltu e ra rb disp, decide ((regOf e ra s).toNat < (regOf e rb s).toNat)),
      (Instr.bgeu e ra rb disp, decide ((regOf e rb s).toNat ≤ (regOf e ra s).toNat))] → atInstr e i s = true →
      ∃ t, exec i s = .next t ∧
        wentTo e (s.engines[e].pc + (if c then 4 * disp.signExtend 32 else 4)) s.engines[e].rstack s t) ∧
    (atInstr e (.jmp e far) s = true →
      ∃ t, exec (.jmp e far) s = .next t ∧
        wentTo e (s.engines[e].pc + 4 * far.signExtend 32) s.engines[e].rstack s t) ∧
    (atInstr e (.jmpr e ra) s = true → (regOf e ra s).toNat % 4 = 0 →
      ∃ t, exec (.jmpr e ra) s = .next t ∧ wentTo e (regOf e ra s) s.engines[e].rstack s t)

/-- CALL and CALLR push their own address + 4 and jump, RET pops and jumps (R431, R438); a call on a full stack and a RET
on an empty one latch source 26 and trap with cause RSTACK, overflow set or clear, and neither push nor jump (R439). -/
def Obligations.CallsAndReturns : Prop :=
  ∀ (e : Fin 18) (reg : Fin 32) (disp : BitVec 26) (s : State),
    let pc := s.engines[e].pc
    let stack := s.engines[e].rstack
    let depth := if 16 ≤ e.val then 64 else 16
    let s26 := { s with hub := s.hub.latch 26 ⟨masterId (engineMaster e), 7, pc⟩ }
    (∀ i a, (i, a) ∈ [(Instr.call e disp, pc + 4 * disp.signExtend 32), (Instr.callr e reg, regOf e reg s)] →
      atInstr e i s = true → a.toNat % 4 = 0 →
      (stack.length < depth → ∃ t, exec i s = .next t ∧ wentTo e a ((pc + 4) :: stack) s t) ∧
      (depth ≤ stack.length → s26.hub.settled = true → canTrap e s26 = true →
        ∃ t, exec i s = .next t ∧ ranOn e s26 t ∧ tookTrap e 7 0x200 ((encodeBurjo i).getD 0) 0 s26 t)) ∧
    (atInstr e (.ret e) s = true →
      (∀ a rest, stack = a :: rest → ∃ t, exec (.ret e) s = .next t ∧ wentTo e a rest s t) ∧
      (stack = [] → s26.hub.settled = true → canTrap e s26 = true →
        ∃ t, exec (.ret e) s = .next t ∧ ranOn e s26 t ∧ tookTrap e 7 0 0xF8040000 0 s26 t))

/-- A push within its bounds, onto memory that its engine may write, lowers DSP by 4 for each register named and stores
the registers in ascending number from the new DSP upward (R435, R436); no other byte, register or control register
changes, and the pc goes on by 4. A pop within its bounds, from clean memory of its engine's view, loads the registers
named, in ascending number from DSP upward, and raises DSP by 4 for each (R435, R436); nothing else changes, and the
pc goes on by 4. -/
def Obligations.StackTransfers : Prop :=
  (∀ (e : Fin 18) (mask : BitVec 16) (s : State) (i : Instr) (regs : List (Fin 32)) (b : Nat),
     (i, regs) ∈ [(Instr.pushl e mask, maskRegs 0 mask), (Instr.pushh e mask, maskRegs 16 mask)] →
     atInstr e i s = true → s.hub.settled = true → engineOk e s.engines[e] = true →
     s.engines[e].ctl[ctlDsLo].toNat + 4 * regs.length ≤ s.engines[e].ctl[ctlDsp].toNat →
     (∀ j, j < regs.length → b % 4 = 0 ∧ s.hub.mayStore (b + 4 * j) = true ∧ s.hub.cleanWord (b + 4 * j) = true ∧
       s.hub.locate (engineMaster e) (s.engines[e].ctl[ctlDsp] - BitVec.ofNat 32 (4 * regs.length) + BitVec.ofNat 32 (4 * j)) =
         .memory (b + 4 * j)) →
     ∃ t, exec i s = .next t ∧ t.pending = s.pending ∧ (∃ m, t.hub = { s.hub with mem := m }) ∧
       (∀ j (hj : j < regs.length), t.hub.memWord (b + 4 * j) = regOf e regs[j] s) ∧
       (∀ a, a < b ∨ b + 4 * regs.length ≤ a → t.hub.memByte a = s.hub.memByte a) ∧
       (∀ d, d ≠ e → t.engines[d] = s.engines[d]) ∧ t.engines[e].pc = s.engines[e].pc + 4 ∧
       (∀ r, regOf e r t = regOf e r s) ∧ t.engines[e].rstack = s.engines[e].rstack ∧
       t.engines[e].ctl = s.engines[e].ctl.set ctlDsp (s.engines[e].ctl[ctlDsp] - BitVec.ofNat 32 (4 * regs.length))) ∧
  (∀ (e : Fin 18) (mask : BitVec 16) (s : State) (i : Instr) (regs : List (Fin 32)) (b : Nat),
     (i, regs) ∈ [(Instr.popl e mask, maskRegs 0 mask), (Instr.poph e mask, maskRegs 16 mask)] →
     atInstr e i s = true → s.hub.settled = true → engineOk e s.engines[e] = true →
     s.engines[e].ctl[ctlDsp].toNat + 4 * regs.length ≤ s.engines[e].ctl[ctlDsHi].toNat →
     (∀ j, j < regs.length → s.hub.cleanWord (b + 4 * j) = true ∧
       s.hub.locate (engineMaster e) (s.engines[e].ctl[ctlDsp] + BitVec.ofNat 32 (4 * j)) = .memory (b + 4 * j)) →
     ∃ t, exec i s = .next t ∧ ranOn e s t ∧ t.engines[e].pc = s.engines[e].pc + 4 ∧
       (∀ j (hj : j < regs.length), regOf e regs[j] t = s.hub.memWord (b + 4 * j)) ∧
       (∀ r, r ∉ regs → regOf e r t = regOf e r s) ∧ t.engines[e].rstack = s.engines[e].rstack ∧
       t.engines[e].ctl = s.engines[e].ctl.set ctlDsp (s.engines[e].ctl[ctlDsp] + BitVec.ofNat 32 (4 * regs.length)))

/-- ADDSP adds its signed operand to DSP within the bounds, both of which DSP may equal; past a bound it, like a push or a
pop, latches source 26 and traps with cause DSTACK before any access, overflow set below DS_LO and clear above DS_HI; DSP,
memory and the registers stay (R433, R436, R439). -/
def Obligations.StackBounds : Prop :=
  ∀ (e : Fin 18) (operand mask : BitVec 16) (s : State),
    let x := s.engines[e]
    let lo := x.ctl[ctlDsLo].toNat
    let hi := x.ctl[ctlDsHi].toNat
    let sum : Int := x.ctl[ctlDsp].toNat + operand.toInt
    let s26 := { s with hub := s.hub.latch 26 ⟨masterId (engineMaster e), 7, x.pc⟩ }
    (atInstr e (.addsp e operand) s = true → engineOk e x = true → lo ≤ sum → sum ≤ hi →
      ∃ t, exec (.addsp e operand) s = .next t ∧ ranOn e s t ∧
        t.engines[e] = { x with pc := x.pc + 4, ctl := x.ctl.set ctlDsp (BitVec.ofInt 32 sum) }) ∧
    (∀ i (new : Int) (ovf : Bool), (i, new, ovf) ∈ [(Instr.addsp e operand, sum, decide (sum < lo)),
        (Instr.pushl e mask, (x.ctl[ctlDsp].toNat : Int) - 4 * (maskRegs 0 mask).length, true),
        (Instr.pushh e mask, (x.ctl[ctlDsp].toNat : Int) - 4 * (maskRegs 16 mask).length, true),
        (Instr.popl e mask, (x.ctl[ctlDsp].toNat : Int) + 4 * (maskRegs 0 mask).length, false),
        (Instr.poph e mask, (x.ctl[ctlDsp].toNat : Int) + 4 * (maskRegs 16 mask).length, false)] →
      (if ovf then new < lo else (hi : Int) < new) → atInstr e i s = true → s26.hub.settled = true →
      canTrap e s26 = true →
      ∃ t, exec i s = .next t ∧ ranOn e s26 t ∧
        tookTrap e 6 (if ovf then 0x200 else 0) ((encodeBurjo i).getD 0) (BitVec.ofInt 32 new) s26 t)

/-- MFC reads a control register: the engine's number, the stored registers, the depth of the return stack, TIME, and on a
port engine its pending lines; MTC writes the bits that R441's table gives the register and no other, and RS_DEPTH discards
the newest entries of the return stack. -/
def Obligations.ControlRegisters : Prop :=
  ∀ (e : Fin 18) (reg : Fin 32) (n : Fin 16) (s : State),
    let x := s.engines[e]
    let c : BitVec 8 := BitVec.ofNat 8 n.val
    (atInstr e (.mfc e reg c) s = true → n.val ≠ 12 →
      ∃ t, exec (.mfc e reg c) s = .next t ∧ wroteReg e reg (if n = 0 then BitVec.ofNat 32 (if 16 ≤ e.val then 0x100 + e.val else e.val)
        else if n = 11 then BitVec.ofNat 32 x.rstack.length
        else if n = 14 then timeAt e s.hub.sun.clk x.timeBase else x.ctl[n]) s t) ∧
    (∀ p : Fin 16, e.val = p.val → atInstr e (.mfc e reg 12) s = true →
      ∃ t, exec (.mfc e reg 12) s = .next t ∧ wroteReg e reg (BitVec.ofNat 32 (s.hub.peLines p +
        if timeDue x (timeAt e s.hub.sun.clk x.timeBase) then 0x200 else 0)) s t) ∧
    (atInstr e (.mtc e reg c) s = true → engineOk e x = true → ∀ bits : Word,
      (n.val, bits) ∈ [(1, 0x3), (2, 0x7), (3, 0xFFFFFE00), (4, 0xFFFFFFFF), (5, 0xFFFFFFFF), (6, 0x70F), (7, 0xFFFFFFFF),
        (8, 0xFFFFFFFC), (9, 0xFFFFFFFC), (10, 0xFFFFFFFC), (13, 0xFFFF), (15, 0xFFFFFFFF)] →
      ∃ t, exec (.mtc e reg c) s = .next t ∧ ranOn e s t ∧
        t.engines[e] = { x with pc := x.pc + 4, ctl := x.ctl.set n (regOf e reg s &&& bits) }) ∧
    (atInstr e (.mtc e reg 11) s = true →
      ∃ t, exec (.mtc e reg 11) s = .next t ∧
        wentTo e (x.pc + 4) (x.rstack.drop (x.rstack.length - (regOf e reg s).toNat % 128)) s t)

/-- A load or store at an address that its engine's view lacks, or of less than a word in register space, latches source 27
and traps with cause BUSERR; a load from a
poisoned word traps with cause POISON; rd is not written (R15, R406, R443, R448). -/
def Obligations.FailedAccessesTrap : Prop :=
  ∀ (e : Fin 18) (rd ra : Fin 32) (off : BitVec 16) (s : State) (i : Instr) (n : Nat) (write : Bool),
    (i, n, write) ∈ [(Instr.ldw e rd ra off, 4, false), (Instr.ldh e rd ra off, 2, false), (Instr.ldhu e rd ra off, 2, false),
      (Instr.ldb e rd ra off, 1, false), (Instr.ldbu e rd ra off, 1, false), (Instr.stw e rd ra off, 4, true),
      (Instr.sth e rd ra off, 2, true), (Instr.stb e rd ra off, 1, true)] →
    let a := regOf e ra s + off.signExtend 32
    let s27 := { s with hub := s.hub.latch 27 ⟨masterId (engineMaster e), write.toNat, a⟩ }
    atInstr e i s = true → a.toNat % n = 0 →
    (s.hub.locateWide (engineMaster e) a n = .busError → s27.hub.settled = true → canTrap e s27 = true →
      ∃ t, exec i s = .next t ∧ ranOn e s27 t ∧
        tookTrap e 3 (if write then 0x400 else 0) ((encodeBurjo i).getD 0) a s27 t) ∧
    (∀ b, s.hub.locate (engineMaster e) a = .memory b → write = false → s.hub.poisoned b = true → s.hub.settled = true →
      canTrap e s = true →
      ∃ t, exec i s = .next t ∧ ranOn e s t ∧ tookTrap e 4 0x100 ((encodeBurjo i).getD 0) a s t)

/-- A synchronous trap while in_trap is 1 halts the engine: a port engine with cause 3 in PE_CAUSE and source 25, a
supervisor as its watchdog does, with source 23 or 24 (R385, R447); the TRAP registers keep the first trap's values. -/
def Obligations.DoubleTrapHalts : Prop :=
  ∀ (e : Fin 18) (operand : BitVec 16) (s : State), atInstr e (.trap e operand) s = true → s.engines[e].flag 2 2 = true →
    (∀ p : Fin 16, e.val = p.val → exec (.trap e operand) s = .next (ends (s.hub.failPe p 3) s)) ∧
    (e = 16 → exec (.trap e operand) s =
      .next (ends (((s.hub.setSup false supHalted).latchMonitor 23).supStopped false 2 false) s)) ∧
    (e = 17 → exec (.trap e operand) s =
      .next (ends (((s.hub.setSup true supHalted).latchMonitor 24).supStopped true 2 false) s)) ∧
    ∀ h : Hub, (ends h s).engines[e] = s.engines[e] ∨ ∃ pc now, (ends h s).engines[e] = Engine.fresh pc now

/-- NOP and FENCE go on by 4 and do nothing else; WAIT goes on by 4 and waits; ERET takes ie from pie, clears in_trap and
goes to TRAP_PC; BREAK with brk_halt at 1 halts a port engine with cause 4 and puts a supervisor into HALTING (R429, R440,
R450–R452, R395). -/
def Obligations.SystemInstructions : Prop :=
  ∀ (e : Fin 18) (s : State),
    let x := s.engines[e]
    (∀ i ∈ [Instr.nop e, Instr.fence e], atInstr e i s = true →
      ∃ t, exec i s = .next t ∧ wentTo e (x.pc + 4) x.rstack s t) ∧
    (atInstr e (.wait e) s = true → ∃ t, exec (.wait e) s = .next t ∧ ranOn e s t ∧
      t.engines[e] = { x with pc := x.pc + 4, waiting := true }) ∧
    (atInstr e (.eret e) s = true → ∃ t, exec (.eret e) s = .next t ∧ ranOn e s t ∧
      t.engines[e].pc = x.ctl[ctlTrapPc] ∧ t.engines[e].flag 2 0 = x.flag 2 1 ∧ t.engines[e].flag 2 1 = x.flag 2 1 ∧
      t.engines[e].flag 2 2 = false ∧ (∀ n : Fin 16, n ≠ 2 → t.engines[e].ctl[n] = x.ctl[n]) ∧
      t.engines[e].regs = x.regs ∧ t.engines[e].rstack = x.rstack) ∧
    (atInstr e (.brk e) s = true → x.flag 1 1 = true →
      (∀ p : Fin 16, e.val = p.val → exec (.brk e) s = .next (ends (s.hub.haltPe p 4) s)) ∧
      (e = 16 → exec (.brk e) s = .next (ends (s.hub.wr ENG_STATUS.state_a 2) s)) ∧
      (e = 17 → exec (.brk e) s = .next (ends (s.hub.wr ENG_STATUS.state_b 2) s)))

/-- IRQ is taken with ie at 1, in_trap at 0 and a line pending that IRQ_MASK lets through: TRAP_PC holds the pc as it
stands, TRAP_INSN and TRAP_ADDR 0, the cause is 10, and a wait ends (R445, R449, R451); on a port engine the hub does not
change, on a supervisor no register does. A TIME_CMP match that IRQ_MASK lets through ends a wait and changes nothing
else (R442, R451). -/
def Obligations.InterruptsTaken : Prop :=
  ∀ (e : Fin 18) (s : State), s.hub.runsCode e = true →
    let x := s.engines[e]
    let lines := (pending e s).1 &&& x.ctl[ctlIrqMask].toNat
    (x.flag 2 0 = true → x.flag 2 2 = false → lines ≠ 0 →
      ∃ t, exec (.irq e) s = .next t ∧ tookTrap e 10 0 0 0 s t ∧ t.engines[e].waiting = false ∧ t.pending = s.pending ∧
        (∀ d, d ≠ e → t.engines[d] = s.engines[d]) ∧ t.hub.regs = s.hub.regs ∧ t.hub.mem = s.hub.mem ∧
        (e.val < 16 → t.hub = s.hub)) ∧
    (timeDue x (timeAt e s.hub.sun.clk x.timeBase) = true → x.ctl[ctlIrqMask].getLsbD 9 = true →
      ∃ t, exec (.timeCmpMatch e) s = .next t ∧ ranOn e s t ∧ t.engines[e] = { x with waiting := false })

/-! ### Ports: attach, detach and VBUS (chapter 03) -/

/-- The waits of an attach end as R100 says: a toggling DRP changes sides (R94); debounced terminations with VBUS at
vSafe0V and the claim granted enter ATTACHED_SRC on the lane that shows Rd, whose orientation it keeps (R105, R111);
terminations lost for pd_debounce, an unanswered Try.SRC and try_timeout go back to Unattached, or on to TRYWAIT_SNK
(R96, R101). Each claim that the port holds goes with the attempt. A search sees a partner: a source with Rd on one
lane only enters ATTACHWAIT_SRC and debounces, a sink with Rp on one lane only ATTACHWAIT_SNK (R93, R100); VBUS above
the detection threshold is noted and ends vSafe0V (R100, R102). A port that presents nothing looks at nothing (R121). -/
def Obligations.AttachAndSearch : Prop :=
  (∀ (p : Fin 16) (l : Nat) (s : State), portUp p s = true →
     let h := s.hub
     ((h.port p).role = 2 → h.prd p PORT_CTRL.role = 2 →
       (h.tc p = 5 → exec (.drpToggle p) s = .next (ends (h.enterSearch p 2) s)) ∧
       (h.tc p = 2 → exec (.drpToggle p) s = .next (ends (h.enterSearch p 5) s))) ∧
     (h.runs p .ccDebounce = true → h.tc p = 6 → h.pis p PORT_STATUS.vsafe0 = true →
       (portEntry h.es p [.tentative]).isSome = true → h.autoHeld p = false → h.rdLane p = some l →
       ((h.stop p .ccDebounce).attachSrc p l).tc p = 7 ∧
         exec (.ccDebounceExpiry p) s =
           .next (ends (((h.stop p .ccDebounce).attachSrc p l).tryAttachSnk p) s)) ∧
     (h.runs p .pdDebounce = true →
       (h.tc p = 6 → exec (.pdDebounceExpiry p) s =
         .next (ends (((h.stop p .pdDebounce).dropClaims p).enterSearch p 5) s)) ∧
       (h.tc p = 3 ∨ h.tc p = 9 → exec (.pdDebounceExpiry p) s =
         .next (ends (((h.stop p .pdDebounce).dropClaims p).enterSearch p 2) s))) ∧
     (h.runs p .drpTry = true → h.tc p = 8 →
       exec (.drpTryExpiry p) s = .next (ends ((h.stop p .drpTry).enterTryWait p) s)) ∧
     (h.runs p .tryTimeout = true → h.tc p = 8 ∨ h.tc p = 9 →
       exec (.tryTimeoutExpiry p) s = .next (ends (((h.stop p .tryTimeout).dropClaims p).enterSearch p 2) s))) ∧
  (∀ (p : Fin 16) (a b : Term) (s : State), portUp p s = true →
     let h := s.hub
     (h.tc p = 0 ∨ h.tc p = 10 ∨ h.tc p = 11 ∨ h.tc p = 12 →
       exec (.ccTerminationSeen p a b) s = .next (ends h s)) ∧
     (h.settled = true → h.power = .run → (h.port p).isoA = false → (h.port p).isoB = false →
       (h.tc p = 5 → (a = .rd ∧ b ≠ .rd ∨ a ≠ .rd ∧ b = .rd) →
         ∃ t, exec (.ccTerminationSeen p a b) s = .next t ∧ t.hub.tc p = 6 ∧ t.hub.runs p .ccDebounce = true ∧
           (t.hub.port p).laneA = a ∧ (t.hub.port p).laneB = b ∧ t.hub.mem = h.mem ∧ t.hub.ledger = h.ledger ∧
           t.hub.logRing = h.logRing ∧ t.engines = s.engines ∧ t.pending = s.pending ∧
           ∀ q, q ≠ p → t.hub.port q = h.port q ∧ ∀ w, w < 0x1000 → t.hub.word (portKey q w) = h.word (portKey q w)) ∧
       (h.tc p = 2 → (isRp a = true ∧ isRp b = false ∨ isRp a = false ∧ isRp b = true) →
         ∃ t, exec (.ccTerminationSeen p a b) s = .next t ∧ t.hub.tc p = 3 ∧ t.hub.runs p .ccDebounce = true ∧
           t.hub.runs p .tryTimeout = true ∧ (t.hub.port p).laneA = a ∧ (t.hub.port p).laneB = b ∧
           t.hub.mem = h.mem ∧ t.hub.ledger = h.ledger ∧ t.hub.logRing = h.logRing ∧ t.engines = s.engines ∧
           t.pending = s.pending ∧
           ∀ q, q ≠ p → t.hub.port q = h.port q ∧ ∀ w, w < 0x1000 → t.hub.word (portKey q w) = h.word (portKey q w))) ∧
     (h.tc p = 2 ∨ h.tc p = 3 ∨ h.tc p = 9 →
       exec (.sinkVbusDetected p) s =
         .next (ends (((h.pwr p PORT_STATUS.vsafe0 0).mapPort p fun x => { x with sinkVbus := true }).tryAttachSnk p) s)))

/-- VCONN (R106–R108, R606): an overcurrent opens the switch of a VCONN source, holds it open and sets vconn_oc, a failing
VCONN_IN opens every switch and latches source 48, its return closes the switches that R106 asks for, and reverse current
opens one. An overvoltage on a lane isolates it, opens the port's VCONN switch (whichever lane it is: log entry 104) and sets
cc_ov (R92); what a partner's leaving does at once (R41, R119): the target goes to 0 V, the pass switch opens, VCONN, contract
and SinkTxNG end, and no frame waits. Each event completes, on every port that the part has, with this as its own effect. -/
def Obligations.PathsAndVconn : Prop :=
  (∀ (p : Fin 16) (s : State), portUp p s = true →
     let h := s.hub
     (h.vconnSource p = true →
       let open_ := (h.mapPort p fun x => { x with vconnTripped := true }).pwr p VCONN_CTRL.vconn_on 0
       let g := (open_.stamp p.val).portFault p PORT_FAULT.vconn_oc
       exec (.vconnOvercurrent p) s = .next (ends g s) ∧ g.pis p VCONN_CTRL.vconn_on = false ∧
         g.pis p PORT_FAULT.vconn_oc = true ∧ (g.port p).vconnTripped = true ∧ g.mem = h.mem ∧ g.ledger = h.ledger) ∧
     (h.vconnSource p = false → exec (.vconnOvercurrent p) s = .next (ends h s)) ∧
     exec (.vconnReverseBlock p) s = .next (ends (h.pwr p VCONN_CTRL.vconn_on 0) s) ∧
     (h.vconnGood = true →
       let off : Hub := ({ h with vconnGood := false } : Hub).each h.presentPorts fun q => Hub.pwr q VCONN_CTRL.vconn_on 0
       let g := (off.event 24 { ev := .vconnSupplyLost }).latchShared 48 ⟨31, 7, 0⟩ 0
       exec .vconnSupplyLost s = .next (ends (g.each (g.roundRobin (h.presentPorts.filter fun q =>
         h.eprMode q && h.vconnSource q)) fun q g => (g.exitEpr q).startAms q .eprExit) s)) ∧
     (h.vconnGood = false → exec .vconnSupplyRestored s =
       .next (ends (({ h with vconnGood := true } : Hub).each h.presentPorts Hub.vconnAgain) s))) ∧
  ((∀ (p : Fin 16) (lane : Lane) (s : State), portUp p s = true →
     let cut : PortH → PortH := fun x =>
       { x with isoA := x.isoA || (lane == Lane.a), isoB := x.isoB || (lane == Lane.b), ccHolds := true }
     let g := (((s.hub.mapPort p cut).pwr p VCONN_CTRL.vconn_on 0).stamp p.val).portFault p PORT_FAULT.cc_ov
     exec (.ccOvervoltage p lane) s = .next (ends g s) ∧ g.pis p PORT_FAULT.cc_ov = true ∧
       g.pis p VCONN_CTRL.vconn_on = false ∧ (lane = .a → (g.port p).isoA = true) ∧
       (lane = .b → (g.port p).isoB = true) ∧ g.mem = s.hub.mem ∧ g.ledger = s.hub.ledger) ∧
   ∀ (p : Fin 16) (h : Hub), h.present p = true →
     (h.dropPort p).pis p PASS_STATUS.cmd_on = false ∧ (h.dropPort p).prd p STAGE_VSET.vset = 0 ∧
       (h.dropPort p).pis p VCONN_CTRL.vconn_on = false ∧ (h.dropPort p).prd p PD_STATUS.contract = 0 ∧
       (h.dropPort p).pis p PD_STATUS.sink_tx_ng = false ∧ ((h.dropPort p).port p).txq = [] ∧
       ((h.dropPort p).port p).amsq = [] ∧ (h.dropPort p).mem = h.mem)

/-- VBUS and detach (R112–R121, R332): vSafe5V is noted; a 5 V that does not come within tVBUSON sets uvp; in ATTACHED_SRC
the partner's leaving, and where the port presents Rd the verdict of R117 outside a Fast Role Swap and Hard Reset (R239), is
a detach; a detach window that
ends without one sets ocp_trip after a fast trip, else uvp; a discharge past its limit is logged and goes on; at vSafe0V a
port in DISCHARGE rests or ends its drain; a rest that ends frees the port for its search, or leaves it OFF. -/
def Obligations.VbusAndDetach : Prop :=
  ∀ (p : Fin 16) (s : State), portUp p s = true →
    let h := s.hub
    exec (.vbusVsafe5vReached p) s =
      .next (ends (((((h.pwr p PORT_STATUS.vsafe5 1).pwr p PORT_STATUS.vsafe0 0).vbusUp p).sinkRediscover p).bc12Update
        p) s) ∧
    (h.runs p .vbusOn = true → exec (.vbusOnTimeout p) s =
      .next (ends (((h.stop p .vbusOn).stamp p.val).portFault p PORT_FAULT.uvp) s)) ∧
    (h.tc p = 7 → h.rdShown p = false → exec (.sourceDetach p) s = .next (ends (h.detach p) s)) ∧
    (h.tc p = 4 ∨ h.rdShown p = true → (h.port p).frs = .none ∨ (h.port p).frs = .feeding → (h.port p).hr = .none →
      exec (.sinkDetach p) s = .next (ends (h.detach p) s)) ∧
    (h.runs p .detachWindow = true →
      let g := ((h.stop p .detachWindow).pwr p PASS_STATUS.window 0).stamp p.val
      exec (.detachWindowClose p) s = .next (ends (g.portFault p
        (if h.pis p PASS_STATUS.latched = true ∧ h.prd p PASS_STATUS.trip_cause = 1 then PORT_FAULT.ocp_trip
          else PORT_FAULT.uvp)) s)) ∧
    (h.runs p .discharge = true → exec (.dischargeTimeout p) s =
      .next (ends ((h.stop p .discharge).portEvent p .dischargeTimeout 0) s)) ∧
    (h.tc p = 10 → (h.port p).drain = .none →
      let g := ((((((h.pwr p PORT_STATUS.vsafe0 1).pwr p PORT_STATUS.vsafe5 0).mapPort p
        fun x => { x with sinkVbus := false }).freeReleasing p).bc12Update p).dsOff p).reachVsafe0 p
      exec (.vsafe0vReached p) s = .next (ends g s) ∧ g.tc p = 11 ∧ g.pis p PORT_STATUS.vsafe0 = true ∧
        g.pis p PORT_STATUS.vsafe5 = false ∧ g.runs p .rest = true) ∧
    (h.runs p .rest = true → exec (.restElapsed p) s = .next (ends ((h.stop p .rest).tryLeaveRest p) s)) ∧
    (h.runs p .drainHardReset = true →
      exec (.drainHardResetExpiry p) s = .next (ends ((h.stop p .drainHardReset).drainOff p) s))


/-! ### The Sundial (chapter 02) -/

/-- An edge whose level has not lasted acz_filter, or which a LOCKED Sundial that is not in hold-over finds outside its window,
is counted and left out; a hub that drives SYNC takes none from it (R62, R66). An accepted edge of the reference in use at
45.00–66.00 Hz after the one before sets SUN_FREQ to the interval's frequency, ends the hold-over and turns the phase into a
slew, within 0x40 without a step; the second such edge declares LOCKED (R59, R64, R65, R73). One that returns in hold-over
outside the window ends the hold-over, and slews the shorter way round (R76); that it loses the lock until R65 is met again
is the model's reading (log entry 37). The mains and the schedule slots: an empty window starts the hold-over (R71; that an
unfinished correction is dropped is the model's choice, log entry 101), lost_halves half-cycles without an accepted edge set
mains_lost and latch source 32, with Bivouac mode where it may begin (R69, R70, R251); an expired hold-over leaves the
Sundial FREE at the frequency it had, with source 31, after a MAINS_LOST that is due with it (R72, R74); a slot that comes
due, and of those of one tick the lowest first, fires and is free (R79–R81); the wrap of the cycle number counts the epoch
(R87). -/
def Obligations.SundialEvents : Prop :=
  (∀ (acz : Bool) (held : Nat) (s : State), s.hub.up = true →
     let h := s.hub
     let c := if acz then Instr.aczEdge held else Instr.syncEdge held
     let g := h.edge acz held
     (acz = false → h.is SUN_CFG.sync_drive = true → exec c s = .next (ends h s)) ∧
     (acz = true ∨ h.is SUN_CFG.sync_drive = false →
       exec c s = .next (ends g s) ∧ (h.edgePasses acz held = false → g = h.bump SUN_COUNT.reject) ∧
       (∀ e, h.edgePasses acz held = true → h.sun.ref = some e → (acz = true → h.sun.acz = some e) →
         h.wantedSource = (if acz then 0 else 1) → validInterval (h.sun.clk - e.clk) = true →
         (h.edgePhase acz).natAbs ≤ 0x40 → h.is SUN_STATUS.pre_ready = false →
         g.rd SUN_FREQ.freq = intervalFreq (h.sun.clk - e.clk) ∧ g.is SUN_STATUS.holdover = false ∧
           g.sun.angle = h.sun.angle ∧ g.sun.inLimit = h.sun.inLimit + 1 ∧
           (h.is SUN_STATUS.locked = true → g.sun.slew = - h.edgePhase acz ∧ g.is SUN_STATUS.locked = true) ∧
           (h.is SUN_STATUS.locked = false → 1 ≤ h.sun.inLimit →
             g.is SUN_STATUS.locked = true ∧ g.is SUN_STATUS.unlocked = false ∧ g.sun.slew = 0)) ∧
       (∀ e, h.edgePasses acz held = true → h.sun.ref = some e → (acz = true → h.sun.acz = some e) →
         h.wantedSource = (if acz then 0 else 1) → validInterval (h.sun.clk - e.clk) = true →
         h.is SUN_STATUS.holdover = true → 0x1000 < (h.edgePhase acz).natAbs → h.is SUN_STATUS.pre_ready = false →
         g.is SUN_STATUS.holdover = false ∧ g.is SUN_STATUS.locked = false ∧ g.sun.slew = - h.edgePhase acz ∧
           g.is SUN_STATUS.slewing = true ∧ g.sun.inLimit = 0))) ∧
  (∀ (slot : Fin 32) (s : State), s.hub.up = true →
     let h := s.hub
     (h.is SUN_STATUS.locked = true → h.rd SUN_STATUS.active ≠ 2 → h.windowEmpty = true →
       let still : Hub := { h with sun := { h.sun with slew := 0 } }
       let g := (still.wr SUN_STATUS.slewing 0).wr SUN_STATUS.holdover 1
       exec .holdoverStart s = .next (ends g s) ∧ g.is SUN_STATUS.holdover = true ∧ g.rd SUN_FREQ.freq = h.rd SUN_FREQ.freq) ∧
     (h.windowEmpty = false → exec .holdoverStart s = .next (ends h s)) ∧
     (h.lossDue = true →
       let g := (h.wr SUN_STATUS.mains_lost 1).event 18 { ev := .mainsLost }
       let none_ : Hub := { g with sun := { g.sun with returnEdges := 0 }, returnPending := false }
       let l := none_.latchShared 32 ⟨31, 7, 0⟩ 0
       exec .mainsLost s = .next (ends (if l.mayEnter then l.enterBivouac true else l) s) ∧
         l.is SUN_STATUS.mains_lost = true ∧ l.latched 32 = true) ∧
     (h.lossDue = true ∨ h.holdSpent = false → exec .sundialUnlocked s = .next (ends h s)) ∧
     (h.is SUN_STATUS.unlocked = false → h.rd SUN_STATUS.active ≠ 2 → h.holdSpent = true → h.lossDue = false →
       let free := ((h.wr SUN_STATUS.unlocked 1).wr SUN_STATUS.locked 0).wr SUN_STATUS.holdover 0
       let held := ((free.wr SUN_STATUS.active 2).wr SUN_STATUS.slewing 0).wr SUN_FREE_FREQ.free_freq (h.rd SUN_FREQ.freq)
       let still : Hub := { held with sun := { held.sun with inLimit := 0, slew := 0 } }
       let g := (still.event 18 { ev := .sundialUnlocked }).latchShared 31 ⟨31, 7, 0⟩ 0
       exec .sundialUnlocked s = .next (ends g s) ∧ g.is SUN_STATUS.unlocked = true ∧ g.is SUN_STATUS.locked = false ∧
         g.is SUN_STATUS.holdover = false ∧ g.rd SUN_STATUS.active = 2 ∧
         g.rd SUN_FREE_FREQ.free_freq = h.rd SUN_FREQ.freq ∧ g.latched 31 = true) ∧
     (h.slotDue slot.val = false → exec (.slotFired slot) s = .next (ends h s)) ∧
     (5 ≤ slot.val → h.slotDue slot.val = true →
       let g := h.fireSlot slot
       exec (.slotFired slot) s = .next (ends g.wake s) ∧ g.slotBusy slot.val = false ∧
         (g.word 0x1015).getLsbD slot.val = true ∧ g.sun.slotOwner[slot] = none) ∧
     (h.sun.cycle = 0xFFFFFFFF → h.sun.angle = 0xFFFF →
       exec .sundialWrap s = .next (ends h.tick s) ∧ h.tick.sun.cycle = 0 ∧ h.tick.sun.angle = 0 ∧
         h.tick.rd LOG_HEADER.epoch = (h.rd LOG_HEADER.epoch + 1) % 0x10000))

/-! ### Convoy and the rack (chapters 14 and 15) -/

/-- The Convoy link: how the frame in front ends counts it, keeps it for another try or drops it (R524–R526, R528); one that is
delivered went out with the PEC of its bytes behind them (R512, R522); a frame received badly is counted, with pec_err but for one cut short (R523); an attempt to clear the bus shows its
result (R529, R530); a bus timeout sets its bit and latches source 37 or 34 (R515, R516). A firmware message of a type and
count that R541 lists is held while less than two are and no warm restart runs (R551, R568), any other one is counted as
discarded; a whistle that is pending, allowed and due is counted (R519), and one that is aborted stays pending (R520). -/
def Obligations.ConvoyLink : Prop :=
  (∀ (f : QFrame) (rest : List QFrame) (byte : BitVec 8) (bit : Fin 8) (released data : Bool) (s : State),
     s.hub.up = true →
     let h := s.hub
     let first := !h.backingOff
     let go : FrameEnd → Instr := fun r => if first then .convoyFrameStart r else .convoyBackoffExpiry r
     (h.is CONV_LINK.link_en = true → h.rack.queue = f :: rest →
       exec (go .delivered) s = .next (ends (((h.bump CONV_CNT1.tx_frames).mapRack fun r => { r with wire := f.wire }).frameDone
         1) s) ∧
       (h.rack.retries < 3 → exec (go .nacked) s = .next (ends ((h.wr CONV_STATUS.nack 1).mapRack
         fun r => { r with retries := r.retries + 1 }) s)) ∧
       (3 ≤ h.rack.retries → exec (go .nacked) s = .next (ends ((h.wr CONV_STATUS.nack 1).frameDone 2) s)) ∧
       (byte ≠ 0 → exec (go (.lost byte bit)) s =
         .next (ends ((((((h.wr CONV_STATUS.arb_lost 1).wr CONV_ARB.stop 0).wr CONV_ARB.byte byte.toNat).wr CONV_ARB.bit bit.val)).frameLost) s)) ∧
       (f.wire = (f.dest :: f.type_ :: BitVec.ofNat 8 f.payload.length :: f.payload) ++
         [pec (f.dest :: f.type_ :: BitVec.ofNat 8 f.payload.length :: f.payload)]) ∧
       ((h.frameDone 1).rack.queue = rest ∧ (h.frameDone 1).rack.retries = 0 ∧ (h.frameDone 1).rack.losses = 0) ∧
       (h.rack.losses < 15 → h.frameLost = (h.bump CONV_CNT2.arb_losses).mapRack
         fun r => { r with losses := r.losses + 1 }) ∧
       (15 ≤ h.rack.losses → h.frameLost = ((h.bump CONV_CNT2.arb_losses).bump CONV_CNT2.dropped).frameDone 3)) ∧
     (h.is CONV_LINK.link_en = true →
       exec (.convoyFrameDiscard .cutShort) s = .next (ends (h.bump CONV_CNT2.rx_discarded) s) ∧
       (∀ c, c ≠ DiscardCause.cutShort → exec (.convoyFrameDiscard c) s =
         .next (ends ((h.bump CONV_CNT2.rx_discarded).wr CONV_STATUS.pec_err 1) s))) ∧
     (let n := h.bump CONV_CNT2.clears
      let clear := if released then (n.wr CONV_STATUS.bus_cleared 1).wr CONV_STATUS.bus_stuck 0
       else ((n.wr CONV_STATUS.bus_stuck 1).stamp 20).latchShared 34 ⟨31, 7, 0⟩ 0
      (h.is CONV_LINK.link_en = true → exec (.convoyBusClear released) s = .next (ends clear s)) ∧
       (h.is CONV_STATUS.bus_stuck = true → exec (.busClearRetry released) s = .next (ends clear s))) ∧
     let time : Bus → Instr := fun b => if data then .busDataTimeout b else .busClockTimeout b
     exec (time .convoyBus) s = .next (ends (((h.wr CONV_STATUS.timeout 1).stamp 20).latchShared 34 ⟨31, 7, 0⟩ 0) s) ∧
       exec (time .hostBus) s =
         .next (ends ((h.wr (if data then HOST_STATUS.timeout_data else HOST_STATUS.timeout_clk) 1).latchMonitor 37) s)) ∧
  (∀ (sender : Fin 16) (broadcast : Bool) (type_ : BitVec 8) (payload : List Byte) (s : State), s.hub.up = true →
     let h := s.hub
     let listed := 0x20 ≤ type_.toNat ∧ type_.toNat ≤ 0x3F ∧ 3 ≤ payload.length ∧ payload.length ≤ 32
     (h.is CONV_LINK.link_en = true → ¬ listed →
       exec (.fwMsgRx sender broadcast type_ payload) s = .next (ends (h.bump CONV_CNT2.rx_discarded) s)) ∧
     (h.is CONV_LINK.link_en = true → listed → h.rack.rx.length < 2 → h.restarting = false →
       exec (.fwMsgRx sender broadcast type_ payload) s = .next (ends (((h.bump CONV_CNT1.rx_frames).mapRack
         fun r => { r with rx := r.rx ++ [⟨sender.val, broadcast, type_, payload⟩] }).event 20
           { ev := .fwMsgRx, data := type_.toNat }) s)) ∧
     (listed → 2 ≤ h.rack.rx.length → exec (.fwMsgRx sender broadcast type_ payload) s = .next (ends h s)) ∧
     (h.power = .run → h.is HOST_STATUS.whistle_pending = true → h.is HOST_CFG.whistle_en = true →
       (∀ t, h.whistled = some t → t + h.rd HOST_CFG.whistle_gap * 300000 ≤ h.sun.clk) →
       exec .whistle s = .next (ends (({ h with whistled := some h.sun.clk } : Hub).bump HOST_CNT.whistles) s)) ∧
     (h.is HOST_STATUS.whistle_pending = false ∨ h.is HOST_CFG.whistle_en = false →
       exec .whistle s = .next (ends h s)) ∧
     exec .whistleAbort s = .next s)

/-- Membership: a listening hub that may lead, and hears neither POLL nor SYNC in its rounds, takes the lead (R534); a leader takes a HELLO
from its own site with a free or equal entry, and queues JOIN_ACK, and else refuses with the reason (R535); a hub that is
acknowledged becomes member and adopts the cycle number (R536, R68), one refused reads REFUSED, latches source 36 and has no
share (R536); LEAVE marks the entry (R538); a handover hands SYNC over (R549). The leader's SYNC pulse changes no state
(R67). -/
def Obligations.RackMembership : Prop :=
  ∀ (x : Sender) (mayLead handover site : Bool) (lim joiner : BitVec 24) (round : BitVec 16) (cycle : Word)
    (retry : BitVec 8) (s : State), s.hub.up = true → s.hub.is CONV_LINK.link_en = true →
    let h := s.hub
    let n := x.hub
    let rx := h.bump CONV_CNT1.rx_frames
    (h.role = 1 → h.is CONV_RACK.may_lead = true → h.rack.pollHeard = false → h.rack.syncTick = none → h.power = .run →
      h.roundsSinceReady (3 + h.hubField) = true →
      exec .leaderElection s = .next (ends (h.becomeLeader none) s) ∧ (h.becomeLeader none).role = 3 ∧
        (h.becomeLeader none).is SUN_CFG.sync_drive = true) ∧
    (h.role = 3 → x.site.val ≠ h.card.siteRack % 16 → exec (.helloReceived x mayLead lim) s =
      .next (ends (rx.enqueue (.joinRefused n true x.serial)) s)) ∧
    (h.role = 3 → x.site.val = h.card.siteRack % 16 → ∀ m y, h.rack.members[n] = some m → m.serial = some y →
      y ≠ x.serial → exec (.helloReceived x mayLead lim) s = .next (ends (rx.enqueue (.joinRefused n false x.serial)) s)) ∧
    (h.role = 3 → x.site.val = h.card.siteRack % 16 →
      (∀ m y, h.rack.members[n] = some m → m.serial = some y → y = x.serial) →
      let below := mayLead && decide (n.val < h.hubField)
      let g := (rx.setMember n ⟨some x.serial, Demand.limOnly lim.toNat, false, false⟩ mayLead).wr (CONV_TABLE.misses n) 0
      let hand := if below then g.mapRack fun r => { r with handover := some n } else g
      exec (.helloReceived x mayLead lim) s = .next (ends (hand.enqueue (.joinAck n below x.serial)) s) ∧
        g.is (CONV_TABLE.present n) = true) ∧
    (h.role ≠ 0 → h.role ≠ 3 → joiner = h.serial →
      let late := ({ rx with sun := { rx.sun with cycle := cycle } } : Hub).markLate
      let dst := (((late.wr CONV_RACK.role 2).wr CONV_RACK.leader n.val).wr CONV_RACK.missed 0).wr CONV_ROUND.round round.toNat
      let g := dst.mapRack fun r => { r with takeLead := handover, helloDue := false, shareSeen := true, roundCycle := cycle - cycle % 2 }
      let bytes := leBytes 4 h.sun.cycle.toNat ++ leBytes 4 cycle.toNat
      let adopted : LogData := { ev := .cycleAdopted, data := cycle.toNat, cont := some bytes }
      exec (.joinAckReceived x handover joiner round cycle) s =
        .next (ends ((g.event 20 adopted).event 20 { ev := .joined, data := n.val }) s) ∧
        g.role = 2 ∧ g.sun.cycle = cycle ∧ g.rd CONV_RACK.leader = n.val) ∧
    (h.role ≠ 0 → h.role ≠ 3 → joiner = h.serial →
      let reason := if site then 2 else 1
      let dst := ((rx.wr CONV_RACK.role 4).wr CONV_RACK.reason reason).mapRack
        fun r => { r with refusedAt := h.sun.cycle, helloDue := false, newShare := none }
      let l := (dst.event 20 { ev := .joinRefused, data := reason }).latchShared 36 ⟨31, 7, 0⟩ 0
      exec (.joinRefusedReceived x site joiner retry) s =
        .next (ends (((l.wr RACK_SHARE.valid 0).clearSlot 3).limitChanged 20 l.hubLimit) s)) ∧
    (h.role = 4 → 128 ≤ (h.sun.cycle - h.rack.refusedAt).toNat → exec .helloRetry s =
      .next (ends ((h.mapRack fun r => { r with refusedAt := h.sun.cycle }).enqueue .hello) s)) ∧
    (∀ m, h.role = 3 → h.rack.members[n] = some m → m.serial = none ∨ m.serial = some x.serial → exec (.leaveReceived x) s =
      .next (ends (rx.mapRack fun r => { r with members := r.members.set n (some { m with leaving := true }) }) s)) ∧
    (h.role = 3 → h.rack.handover = some n → h.ahead (h.rack.roundCycle + 1) 0 = false →
      let g := ((h.stopLeading 2).wr CONV_RACK.leader n.val).event 20 { ev := .handover, data := n.val }
      exec .handoverLastSync s =
        .next (ends (g.mapRack fun r => { r with shareSeen := true }) s) ∧
        g.role = 2 ∧ g.is SUN_CFG.sync_drive = false ∧ g.rd CONV_RACK.leader = n.val) ∧
    (h.role = 2 → h.rack.takeLead = true → h.ahead (h.rack.roundCycle + 2) 0 = false → exec .handoverSyncStart s = .next (ends (h.becomeLeader none) s)) ∧
    exec .syncPulse s = .next s

/-- Budget rounds: at angle 0x0400 of an even cycle the leader counts the round and polls (R539); a member answers POLL with
its summary (R542); a summary of the round in progress is taken (R540); SHARE carries the shares of R543, which the hubs take
into CONV_TABLE and, for their own, into slot 3 of the next cycle (R539); a round without SHARE is counted, the third makes a
member LOST with source 35 (R545), and after share_hold of them no more than its floor is held (R548). -/
def Obligations.BudgetRounds : Prop :=
  ∀ (x : Sender) (round : BitVec 16) (cycle : Word) (budget : BitVec 24) (here mayLead : BitVec 16) (d : Demand)
    (high : Bool) (present : BitVec 8) (shares : Vector (BitVec 24) 8) (s : State),
    s.hub.up = true → s.hub.is CONV_LINK.link_en = true →
    let h := s.hub
    let n := x.hub
    let rx := h.bump CONV_CNT1.rx_frames
    (h.role = 3 → h.sun.cycle.toNat % 2 = 0 → 0x0400 ≤ h.sun.angle.toNat →
      h.rack.roundCycle ≠ h.sun.cycle →
      (∀ k : Fin 16, ∀ m, h.rack.members[k] = some m → m.leaving = false) →
      let g := (h.stamp 20).wr CONV_ROUND.round ((h.rd CONV_ROUND.round + 1) % 0x10000)
      let asked := g.mapRack fun r =>
        { r with members := (r.members.map fun m => m.map fun y => { y with fresh := false }).set h.ownField
                   (some ⟨some h.serial, g.summary, true, false⟩),
                 collecting := true, roundCycle := h.sun.cycle, ownDemand := some g.summary }
      exec .budgetRoundStart s = .next (ends (asked.enqueue .poll) s)) ∧
    (h.role = 2 ∨ h.role = 5 → h.power = .run →
      let at_ := ((rx.stamp 20).wr CONV_ROUND.round round.toNat).wr CONV_RACK.leader n.val
      let own := (rx.stamp 20).summary
      let heard := at_.mapRack fun r =>
        { r with pollHeard := true, roundCycle := cycle, shareSeen := false, mayLeadMask := mayLead,
                 ownDemand := some own, helloDue := r.helloDue }
      let g := heard.each (List.finRange 16) fun k y =>
        (y.wr (CONV_TABLE.may_lead k) (mayLead.getLsbD k.val).toNat).wr (CONV_TABLE.leader k) (k == n).toNat
      exec (.pollReceived x round cycle budget here mayLead) s =
        .next (ends ((g.wr CONV_RACK.role 2).enqueue (.demand own)) s) ∧ g.rd CONV_ROUND.round = round.toNat ∧
        g.rd CONV_RACK.leader = n.val ∧ ∀ k : Fin 16, g.is (CONV_TABLE.may_lead k) = mayLead.getLsbD k.val) ∧
    (h.role = 3 → h.rack.collecting = true → h.ahead h.rack.roundCycle 0xE000 = true →
      round.toNat = h.rd CONV_ROUND.round → ∀ m, h.rack.members[n] = some m → m.serial = some x.serial →
      let g := rx.mapRack fun r => { r with members := r.members.set n (some { m with last := d, fresh := true }) }
      exec (.demandReceived x round d) s = .next (ends ((g.wr (CONV_TABLE.sched n) d.scheduled.toNat).wr (CONV_TABLE.misses n) 0) s)) ∧
    (h.role = 3 → h.rack.collecting = true → h.ahead h.rack.roundCycle 0xE000 = false →
      (∀ k : Fin 16, ∀ m, h.rack.members[k] = some m → m.fresh = true) →
      let out := sharesOf (h.rd RACK_BUDGET.budget) h.demands (Vector.ofFn fun k => h.rd (CONV_TABLE.share k))
      let done := (h.stamp 20).mapRack fun r => { r with collecting := false }
      let told := done.each (List.finRange 16) fun k => Hub.wr (CONV_TABLE.share k) out[k]
      exec .shareCompute s =
        .next (ends (((told.setShareSlot out[h.ownField]).enqueue (.share false)).enqueue (.share true)) s)) ∧
    (h.role = 2 → round.toNat = h.rd CONV_ROUND.round → n.val = h.rd CONV_RACK.leader →
      h.ahead (h.rack.roundCycle + 1) 0 = true → h.hubField / 8 = high.toNat →
      present.getLsbD (h.hubField % 8) = true →
      let share := shares[h.hubField % 8]'(Nat.mod_lt _ (by decide))
      let place : Fin 8 → Nat := fun k => (if high then 8 else 0) + k.val
      let table := rx.each (List.finRange 8) fun k y =>
        (y.wr (CONV_TABLE.present (place k)) (present.getLsbD k.val).toNat).wr (CONV_TABLE.share (place k)) shares[k].toNat
      let g := (((table.countTable).setShareSlot share.toNat).wr CONV_RACK.missed 0).mapRack
        fun r => { r with shareSeen := true }
      exec (.shareReceived x round high present shares) s = .next (ends g s) ∧ g.slotBusy 3 = true ∧
        g.rack.newShare = some share.toNat ∧ g.rd (SLOT_TGT_CYCLE.cycle 3) = (h.rack.roundCycle + 1).toNat ∧
        g.rd (SLOT_TGT_ANGLE.angle 3) = 0 ∧ g.rd CONV_RACK.missed = 0 ∧
        (∀ k : Fin 8, g.is (CONV_TABLE.present (place k)) = present.getLsbD k.val ∧
          g.rd (CONV_TABLE.share (place k)) = shares[k].toNat)) ∧
    let counted := h.mapRack fun r => { r with shareSeen := true, roundCycle := r.roundCycle + if r.shareSeen then 2 else 0 }
    (h.role = 2 → h.roundMissed = false → exec .roundMissed s = .next (ends h s)) ∧
    (h.role = 2 → h.roundMissed = true → h.rd CONV_RACK.missed < 2 →
      exec .roundMissed s = .next (ends (counted.bump CONV_RACK.missed) s)) ∧
    (h.role = 2 → h.roundMissed = true → h.rd CONV_RACK.missed = 2 → h.is CONV_RACK.may_lead = false →
      let g := counted.bump CONV_RACK.missed
      let lost := (g.wr CONV_RACK.role 5).event 20 { ev := .leaderLost, data := h.rd CONV_RACK.leader }
      exec .roundMissed s = .next (ends (lost.latchShared 35 ⟨31, 7, 0⟩ 0) s)) ∧
    (∀ own, h.role = 5 → 3 + h.rd CONV_CFG.share_hold ≤ h.rd CONV_RACK.missed → h.is RACK_SHARE.valid = true →
      h.rack.ownDemand = some own →
      exec .shareHoldExpiry s = .next (ends ((h.stamp 20).takeShare (min (h.rd RACK_SHARE.share) own.floor)) s))


/-! ### Power stages and pass switches (chapters 07 and 08) -/

/-- The quads and ports latch the half-cycle's averages and readings (R284, R286); a reference that fails four times sets
ref_bad and latches source 49 + q (R285); a new switching frequency comes into force when the stage next takes it
(R281); the current limit is shown as state LIMIT while it holds, from RAMP or REGULATE (R301). Reverse mode and
drains: with the stage drained to mode REVERSE the target steps to the measured VBUS (R309), a ready node closes the
pass switch unless a Fast Role Swap still waits for the pack (R309, R261); a drain to OFF ends at its voltage or its
limit, which is logged (R315), and leaves every PWM output low (R275); a stage with frs_arm set is armed by it (R311). -/
def Obligations.StagesAndReadings : Prop :=
  (∀ (p : Fin 16) (q : Fin 4) (x : HalfCycle) (s : State), portUp p s = true →
     let h := s.hub
     let read : Hub := ({ h with monitors := x.monitors } : Hub).each h.presentQuads fun k => Hub.latchQuad k x.quads[k]
     let g := read.each h.presentPorts fun k => Hub.latchPort k x.ports[k]
     (exec (.halfCycleLatch x) s = .next (ends g s) ∧ g.monitors = x.monitors ∧
       g.prd p STAGE_TELEM1.vnode = (x.ports[p]).vnode.toNat ∧ g.prd p STAGE_TELEM1.vbus = (x.ports[p]).vbus.toNat ∧
       (g.port p).pins.node = (x.ports[p]).node ∧ (g.port p).pins.bus = (x.ports[p]).bus) ∧
     (q.val < h.part.quads → h.qrd q HK_STATUS.ref_bad = 0 →
       exec (.hkReferenceFault q) s = .next (ends (((h.qwr q HK_STATUS.ref_fails
         (min 255 (h.qrd q HK_STATUS.ref_fails + 4))).qwr q HK_STATUS.ref_bad 1).latchMonitor (49 + q.val)) s)) ∧
     exec (.fswApply p) s =
       .next (ends ((h.mapPort p fun y => { y with fswHeld := none }).pwr p STAGE_STATUS.fsw_pending 0) s) ∧
     (h.stage p = stRamp ∨ h.stage p = stRegulate →
       exec (.currentLimitEntry p) s = .next (ends (h.setStage p stLimit) s)) ∧
     (h.stage p = stLimit → exec (.currentLimitExit p) s = .next (ends (h.setStage p stRegulate) s))) ∧
  (∀ (p : Fin 16) (vbus : BitVec 16) (s : State), portUp p s = true →
     let h := s.hub
     (h.stage p = stDrain → h.prd p STAGE_CTRL.mode = 2 →
       let g := (((h.dsOff p).stepTo p vbus.toNat).pwr p STAGE_STATUS.node_ready 0).setStage p stEqualise
       exec (.reverseEqualise p vbus) s = .next (ends g s) ∧ g.stage p = stEqualise ∧
         (g.port p).vsetEff = vbus.toNat) ∧
     (h.stage p = stEqualise →
       let g := h.pwr p STAGE_STATUS.node_ready 1
       ((h.port p).frs ≠ .signalling → h.runs p .frsVbus = false → exec (.nodeReady p) s = .next (ends (g.passOn p) s)) ∧
       ((h.port p).frs = .signalling ∨ h.runs p .frsVbus = true → exec (.nodeReady p) s = .next (ends g s))) ∧
     (h.stage p = stDrain → h.prd p STAGE_CTRL.mode ≠ 2 →
       let g := h.setStage p (if h.pis p STAGE_CTRL.frs_arm then stFrsArmed else stOff)
       exec (.drainComplete p) s = .next (ends g s) ∧ g.switching p = false ∧ g.pwm p = Pwm.off ∧
       exec (.drainTimeout p) s = .next (ends (g.portEvent p .drainTimeout 0) s)))

/-- Protections of a power stage, each an event of its port that completes with what is said here as its own effect: VCx or
VBUS above the highest target of the last 20 ms plus trim and margin turns every switch off and sets ovp (R303); VBUS below
the threshold of R302 on a forward stage with its pass switch on sets uvp, or opens the detach window in ATTACHED_SRC, where
uvp does not set (R304, R118); a saturated loop sets loop_sat (R305); a fitted thermistor over its limit sets over_temp
(R306). The bit that sets is in PORT_FAULT, the port's aggregate source latches with it (R334), and memory and the ledger are
as they were. -/
def Obligations.StageProtections : Prop :=
  ∀ (p : Fin 16) (node bus : BitVec 16) (s : State), portUp p s = true →
    let h := s.hub
    let set := fun (f : PField) (before : Hub) => (before.stamp p.val).portFault p f
    (h.stage p ≠ stOff → h.ovpLimit p < bus.toNat ∨ h.ovpLimit p < node.toNat →
      let off := (((h.abortLeak p).dropRaises p).setStage p stOff).pwr p STAGE_STATUS.node_ready 0
      let g := set PORT_FAULT.ovp (off.mapPort p fun x => { x with ovpHolds := true })
      exec (.ovpDetect ⟨p, node, bus⟩) s = .next (ends g s) ∧ g.stage p = stOff ∧ g.pis p PORT_FAULT.ovp = true ∧
        g.latched p.val = true ∧ g.mem = h.mem) ∧
    (h.ovpLimit p = h.vHigh p + h.trimNow p / 100 + 5 * h.prd p STAGE_PROT.ovp_margin) ∧
    (bus.toNat ≤ h.ovpLimit p → node.toNat ≤ h.ovpLimit p → exec (.ovpDetect ⟨p, node, bus⟩) s = .next (ends h s)) ∧
    (h.forward p = true → h.prd p PASS_STATUS.state = 2 → 330 ≤ h.vnow p → h.uvpUnder p bus = true →
      (h.tc p = 7 →
        let g := (h.stamp p.val).openWindow p
        exec (.uvpDetect ⟨p, bus⟩) s = .next (ends g s) ∧ g.runs p .detachWindow = true ∧
          g.pis p PASS_STATUS.cmd_on = false ∧ g.pis p PORT_FAULT.uvp = h.pis p PORT_FAULT.uvp) ∧
      (h.tc p ≠ 7 →
        let g := set PORT_FAULT.uvp h
        exec (.uvpDetect ⟨p, bus⟩) s = .next (ends g s) ∧ g.pis p PORT_FAULT.uvp = true ∧ g.latched p.val = true ∧
          g.mem = h.mem ∧ g.ledger = h.ledger)) ∧
    (h.stage p ≠ stLimit → h.uvpUnder p bus =
      decide (bus.toNat + 5 * h.prd p STAGE_PROT.uvp_margin < h.vnow p)) ∧
    (h.stage p = stLimit → h.uvpUnder p bus = (if h.prd p STAGE_CTRL.cl_kind = 1 then decide (bus.toNat < 310)
      else if h.prd p STAGE_CTRL.cl_kind = 2 then decide (bus.toNat < 1425)
      else decide (bus.toNat + 5 * h.prd p STAGE_PROT.uvp_margin < h.vnow p))) ∧
    (h.stage p = stRamp ∨ h.stage p = stRegulate ∨ h.stage p = stEqualise →
      let g := set PORT_FAULT.loop_sat h
      exec (.loopSaturation p) s = .next (ends g s) ∧ g.pis p PORT_FAULT.loop_sat = true ∧ g.latched p.val = true ∧
        g.mem = h.mem ∧ g.ledger = h.ledger) ∧
    (h.pis p STAGE_CFG.ntc_fitted = true →
      let g := set PORT_FAULT.over_temp (h.mapPort p fun x => { x with otHolds := true })
      exec (.overtemperature p) s = .next (ends g s) ∧ g.pis p PORT_FAULT.over_temp = true ∧ g.latched p.val = true ∧
        (g.port p).otHolds = true ∧ g.mem = h.mem ∧ g.ledger = h.ledger)

/-- The pass switch (R321–R341): the inrush ends in ON, or trips at its limit; the limit shows as state LIMIT; a fast trip
in ATTACHED_SRC waits for the detach window, elsewhere sets ocp_trip; the SOA accumulator trips at its budget; a gate that
does not follow trips; where several trips arise at one conversion, FAST comes first and SOA before the others (R333). The
probe rises to its plateau and ends PASSED, or LEAKY with a trip. Each trip completes with this as its own effect: the switch
is off and latched off, its cause is shown, its bit of PORT_FAULT sets and the port's source latches (R330, R331, R334). A
trip while the switch is not commanded on has no effect (R333). -/
def Obligations.PassSwitch : Prop :=
  ∀ (p : Fin 16) (s : State), portUp p s = true →
    let h := s.hub
    (h.pis p PASS_STATUS.cmd_on = true →
      (h.prd p PASS_STATUS.state = 1 ∨ h.prd p PASS_STATUS.state = 3 →
        let g := ((h.stop p .inrush).stop p .gate).pwr p PASS_STATUS.state 2
        (h.stage p ≠ stEqualise → exec (.inrushComplete p) s = .next (ends g s)) ∧
        (h.stage p = stEqualise → exec (.inrushComplete p) s = .next (ends (g.setStage p stReverse) s))) ∧
      exec (.passLimitEntry p) s = .next (ends (h.pwr p PASS_STATUS.state 3) s) ∧
      (h.tc p = 7 →
        let g := ((h.tripOff p 1).portEvent p .passTrip 1).openWindow p
        exec (.fastTrip p) s = .next (ends g s) ∧ g.runs p .detachWindow = true ∧ g.pis p PASS_STATUS.cmd_on = false ∧
          g.pis p PASS_STATUS.latched = true ∧ g.prd p PASS_STATUS.trip_cause = 1) ∧
      (h.tc p ≠ 7 → exec (.fastTrip p) s = .next (ends (h.trip p 1 PORT_FAULT.ocp_trip) s)) ∧
      (h.fastHolds p = false →
        let e := max (h.port p).soa (h.prd p PASS_SOA.soa_budget * 100000000)
        let g := (h.mapPort p fun x => { x with soa := e }).pwr p PASS_ENERGY.peak
          (max (h.prd p PASS_ENERGY.peak) (min 0xFFFF (e / 10000000)))
        exec (.soaTrip p) s = .next (ends (g.trip p tripSoa PORT_FAULT.soa_trip) s))) ∧
    (∀ g : Hub, g.part.absentSource p.val = false → ∀ cause f, (cause, f) ∈ [(1, PORT_FAULT.ocp_trip), (2, PORT_FAULT.soa_trip),
        (3, PORT_FAULT.ocp_trip), (4, PORT_FAULT.gate_stuck), (5, PORT_FAULT.leaky_pass)] →
      (g.trip p cause f).pis p PASS_STATUS.cmd_on = false ∧ (g.trip p cause f).pis p PASS_STATUS.latched = true ∧
        (g.trip p cause f).prd p PASS_STATUS.trip_cause = cause ∧ (g.trip p cause f).prd p PASS_STATUS.state = 4 ∧
        (g.trip p cause f).pis p f = true ∧ (g.trip p cause f).latched p.val = true ∧
        (g.trip p cause f).mem = g.mem ∧ (g.trip p cause f).ledger = g.ledger) ∧
    (∀ (g : Hub) (cause : Nat) (f : PField),
      (g.fastHolds p = true → g.firstTrip p cause f = g.fastTrip p) ∧
      (g.fastHolds p = false → g.soaHolds p = true → g.firstTrip p cause f = g.trip p tripSoa PORT_FAULT.soa_trip) ∧
      (g.fastHolds p = false → g.soaHolds p = false → g.firstTrip p cause f = g.trip p cause f)) ∧
    (h.pis p PASS_STATUS.cmd_on = false → ∀ c ∈ [Instr.passLimitEntry p, Instr.fastTrip p, Instr.soaTrip p],
      exec c s = .next (ends h s)) ∧
    (h.runs p .inrush = true →
      exec (.inrushTimeout p) s = .next (ends ((h.stop p .inrush).firstTrip p tripInrush PORT_FAULT.ocp_trip) s)) ∧
    (h.runs p .gate = true →
      exec (.gateStuck p) s = .next (ends ((h.stop p .gate).firstTrip p tripGate PORT_FAULT.gate_stuck) s)) ∧
    (h.runs p .leakStep = true → exec (.leakPlateauStep p) s =
      .next (ends ((h.stop p .leakStep).slewTo p (h.prd p LEAK_CFG.leak_v + 200)) s)) ∧
    (h.runs p .leak = true →
      let run := h.stop p .leak
      let pass := ((run.pwr p PASS_STATUS.leak_result 2).drainProbe p).portEvent p .leakDone 2
      let leaky := ((run.pwr p PASS_STATUS.leak_result 3).drainProbe p).portEvent p .leakDone 3
      exec (.leakProbeDone p false) s = .next (ends pass s) ∧
      exec (.leakProbeDone p true) s = .next (ends (leaky.trip p tripLeaky PORT_FAULT.leaky_pass) s) ∧
      (leaky.trip p tripLeaky PORT_FAULT.leaky_pass).pis p PASS_STATUS.cmd_on = false)

/-! ### Bivouac mode (chapter 06) -/

/-- Bivouac mode: a VHUB trigger enters it where it may begin (R251), and is only logged where it may not (R252, R254; by which
entry is the model's choice, log entry 111); on a feeding port the end of the signal starts the
pack's 2 ms for VBUS and 20 ms for FR_Swap (R260, R262), VBUS there turns discharge off and closes the switch of a ready
node (R261), and silence puts the port into safe state (R262); after return_delay the return to mains starts (R269). -/
def Obligations.BivouacMode : Prop :=
  ∀ (p : Fin 16) (s : State), portUp p s = true →
    let h := s.hub
    (h.is BIVOUAC_CFG.vhub_island = true →
      ((h.stamp 24).mayEnter = true → exec .vhubIslandTrigger s = .next (ends ((h.stamp 24).enterBivouac false) s)) ∧
      ((h.stamp 24).mayEnter = false → exec .vhubIslandTrigger s =
        .next (ends ((h.stamp 24).log { ev := .bivouacEntered, data := 1 }) s))) ∧
    (h.is BIVOUAC_CFG.vhub_island = false → exec .vhubIslandTrigger s = .next (ends h s)) ∧
    ((h.port p).frs = .signalling → exec (.frsSignalEnd p) s = .next (ends (((h.mapPort p
      fun x => { x with frs := .awaitVbus }).start p .frsVbus 2000).start p .frsMsg 20000) s)) ∧
    (h.runs p .frsVbus = true →
      let g := (((h.stop p .frsVbus).dsOff p).pwr p PORT_STATUS.vsafe5 1).pwr p PORT_STATUS.vsafe0 0
      (h.pis p STAGE_STATUS.node_ready = true → exec (.feedVbusPresent p) s = .next (ends (g.passOn p) s)) ∧
      (h.pis p STAGE_STATUS.node_ready = false → exec (.feedVbusPresent p) s = .next (ends g s))) ∧
    (h.runs p .frsVbus = true ∨ h.runs p .frsMsg = true →
      exec (.frsNoSource p) s = .next (ends ((h.portEvent p .frsNoSource 0).safeNow p) s)) ∧
    (h.returnDue = true ↔ h.returnPending = true ∧
      h.returnedClk + h.rd BIVOUAC_CFG2.return_delay * 300000000 ≤ h.sun.clk) ∧
    (h.returnDue = true → h.is BIVOUAC_CTRL.exit_auto = true → h.is SUN_CFG.acz_wired = true → h.islanded = true →
      exec .returnDelayExpiry s = .next (ends (({ h with returnPending := false } : Hub).startReturn 19) s)) ∧
    (h.returnDue = true → h.is BIVOUAC_CTRL.exit_auto = false →
      exec .returnDelayExpiry s = .next (ends { h with returnPending := false } s)) ∧
    (h.returnDue = false → exec .returnDelayExpiry s = .next (ends h s))

/-! ### Start and power modes (chapters 00 and 09) -/

/-- The start sequence acts while power-on reset holds the hub (R344, R348); a step 12 without LOCKED runs into its limit
120 ms after the end of step 9, with sun_timeout and source 31, and goes on FREE (R355); READY follows LOCKED, or that limit, or a FREE source, and no
longer lets the Sundial step (R348, R356, R59); VSYS below its limit latches source 43 (R347); an erased card copy shows its
result (R367). -/
def Obligations.StartSequence : Prop :=
  ∀ (r : StartReadings) (s : State),
    let h := s.hub
    (h.power = .reset → exec (.lockoutRelease r) s = .next (ends (h.start_ r) s)) ∧
    (h.power ≠ .reset → exec (.lockoutRelease r) s = .next s) ∧
    (h.up = true →
      (h.awaitsReady = true → h.is SUN_STATUS.locked = false → h.rd SUN_STATUS.active ≠ 2 →
        h.startClk + 36000000 ≤ h.sun.clk →
        let late := ((h.wr SYS_STATUS.sun_timeout 1).wr SYS_STATUS.last_step 12).latchMonitor 31
        let g := (late.wr SUN_STATUS.active 2).wr SUN_FREQ.freq (late.rd SUN_FREE_FREQ.free_freq)
        exec .startupSunTimeout s = .next (ends g s) ∧ g.is SYS_STATUS.sun_timeout = true ∧
          g.rd SUN_STATUS.active = 2 ∧ (h.part.absentSource 31 = false → g.latched 31 = true)) ∧
      (h.awaitsReady = true → h.is SUN_STATUS.locked = true ∨ h.rd SUN_STATUS.active = 2 →
        exec .readyReached s = .next (ends h.reachReady s) ∧ h.reachReady.is SYS_STATUS.ready = true ∧
          h.reachReady.is SUN_STATUS.pre_ready = false ∧ h.reachReady.rd SYS_STATUS.last_step = 13) ∧
      (h.is SYS_STATUS.ready = true →
        let low : Hub := { h with monitors := { h.monitors with vsysLow := true } }
        exec .vsysLow s = .next (ends (low.latchMonitor 43) s)) ∧
      (∀ b, h.fw.cardJob = .cardErase b →
        let out := h.eraseFlash (cardBase b) (cardBase b + 0x8000)
        let fw : FwH := { out.fw with cardJob := .none, erasedCardA := out.fw.erasedCardA || !b,
                                      erasedCardB := out.fw.erasedCardB || b }
        let g := (({ out with fw := fw } : Hub).wr CARD_STATUS.erase_busy 0).wr CARD_STATUS.erase_result 1
        exec .cardEraseDone s = .next (ends g s) ∧ g.is CARD_STATUS.erase_busy = false ∧
          ∀ a, cardBase b ≤ a → a < cardBase b + 0x8000 → g.memByte a = memDefault a))

/-- Watch and Ship mode (R98, R99, R368–R372, R514) and power-on reset (R345, R346): an idle hub enters Watch mode where
nothing stands against it, and else says so; an event wakes it; a detection in Watch mode wakes the port into its debounce;
a wake from Ship mode is a power-on reset that shows its cause, and every power-on reset starts every engine over. -/
def Obligations.PowerModes : Prop :=
  ∀ (p : Fin 16) (lane : Lane) (t : Term) (w : WatchCause) (k : ShipCause) (s : State), s.hub.present p = true →
    let h := s.hub
    (h.power = .run → h.is SYS_MODE.watch_auto = true → (∀ q, h.attached q = false) →
      h.attachedClk + h.rd WAKE_CFG.watch_idle * 300000000 ≤ h.sun.clk →
      (h.mayWatch = true →
        let g := ({ h with power := .watch } : Hub).wr SYS_MODE.mode_result 1
        exec .watchAutoEntry s = .next (ends (if h.is SUN_STATUS.locked = true ∧ h.rd SUN_STATUS.active ≠ 2 then
          g.wr SUN_STATUS.holdover 1 else g) s)) ∧
      (h.mayWatch = false → exec .watchAutoEntry s = .next (ends (h.wr SYS_MODE.mode_result 2) s))) ∧
    (h.power = .watch →
      exec (.watchWake w) s = .next (ends h.wake s) ∧ h.wake.power = .run ∧
      exec .hostWakeAddress s = .next (ends (h.wr HOST_STATUS.wake_nack 1).wake s)) ∧
    (h.power = .watch → h.tc p = tcWatch → t = .rd → h.prd p PORT_CTRL.role ≠ 1 →
      let seen := (h.wake.latchRoles p).mapPort p fun x =>
        { x with laneA := if lane = .a then t else .open_, laneB := if lane = .b then t else .open_ }
      let g := (seen.pwr p PORT_STATUS.partner_rp 0).start p .ccDebounce (seen.prd p TC_TIMER1.cc_debounce * 1000 - 500)
      exec (.watchDetection p lane t) s = .next (ends (g.setTc p 6) s) ∧ g.runs p .ccDebounce = true) ∧
    (h.power = .ship → h.wakeEnabled k = true →
      let g := h.powerReset (h.wakeWord k)
      exec (.shipWake k) s = .next (ends g s) ∧ g.power = .reset ∧ g.word 0x5 = h.wakeWord k) ∧
    (∀ c, c ≠ ResetCause.ship →
      let g := h.powerReset wakeCold
      exec (.powerOnReset c) s = .next (ends g s) ∧ g.power = .reset ∧ g.ledger = Ledger.empty ∧ g.logRing = [] ∧
        g.up = false ∧ ∀ e : Fin 18, (ends g s).engines[e] = Engine.fresh (if e.val = 17 then 0x20000000 else 0) g.sun.clk) ∧
    (h.up = true → h.shipping = true → h.allDark = true →
      exec (.powerOnReset .ship) s = .next (ends h.enterShip s) ∧ h.enterShip.power = .ship)

/-! ### PD messaging (chapter 04) -/

/-- A frame that is not taken: on a SOP type that the port does not answer it is counted as ignored (R130); without a free
ring slot it is counted and not acknowledged (R137); one that repeats the last MessageID is acknowledged, and what was
built on it is discarded (R131, R158); of a chunk that others follow the data is kept, up to 260 bytes, and the next one asked
for (R138). No message acts. A frame that is taken is counted in rx_good, stamped once, and stands in the receive ring with
its MessageID kept (R129, R131, R136); BIST, which no state shows, only lets go on what waited for it (R135, R141, R165). -/
def Obligations.FramesReceived : Prop :=
  (∀ (p : Fin 16) (f : RxFrame) (s : State) (c : Instr) (epr b : Bool) (r : Rdo) (pdos : List Pdo) (k : StatusKind)
     (id : Identity) (u : Unsupported),
     c ∈ [Instr.requestReceived p f epr r, .sourceCapabilitiesReceived p f epr pdos, .sinkCapabilitiesReceived p f epr pdos,
       .getSourceCapReceived p f, .getSinkCapReceived p f, .acceptReceived p f, .rejectReceived p f, .waitReceived p f,
       .psRdyReceived p f, .softResetReceived p f, .getStatusReceived p f, .getPpsStatusReceived p f,
       .getSourceCapExtReceived p f, .getSinkCapExtReceived p f, .alertReceived p f b, .statusDataReceived p f k,
       .eprModeEnterReceived p f, .eprModeExitReceived p f, .eprKeepaliveReceived p f, .eprGetCapReceived p f b,
       .discoverIdentityReceived p f, .vdmResponseReceived p f id, .unsupportedMessageReceived p f u,
       .notSupportedReceived p f, .bistReceived p f, .prSwapReceived p f, .drSwapReceived p f, .vconnSwapReceived p f,
       .frSwapReceived p f] →
     portUp p s = true → s.hub.attached p = true → (s.hub.port p).pdOn = true →
     let h := s.hub
     (f.rev = .rev1 → exec c s = .next (ends h s)) ∧
     (f.rev ≠ .rev1 → f.sop = .sopPP ∨ f.sop = .dbg → exec c s = .next (ends (h.pbump p PD_CNT3.rx_ignored) s)) ∧
     (f.rev ≠ .rev1 → f.sop = .sop →
       (8 ≤ (h.port p).ringCount → exec c s = .next (ends ((h.pbump p PD_CNT3.rx_overrun).dropArrival p) s)) ∧
       ((h.port p).ringCount < 8 → (h.port p).rxId = some f.id →
         exec c s = .next (ends ((h.pbump p PD_CNT1.rx_good).dropArrival p) s)) ∧
       ((h.port p).ringCount < 8 → (h.port p).rxId ≠ some f.id → f.extended = true → f.chunked = true → f.moreChunks = true →
         let part := (((h.mapPort p fun x => { x with arriving := false }).pbump p PD_CNT1.rx_good).mapPort p
           fun x => { x with rxId := some f.id, hrSilent := 0 }).mapPort p
           fun x => { x with chunkData := (x.chunkData ++ (dataBytes f).take 26).take 260 }
         exec c s = .next (ends (((part.pwr p PD_STATUS.ams 6).start p .chunk 27000).send p .chunkRequest) s)))) ∧
  (∀ (p : Fin 16) (f : RxFrame) (s : State), portUp p s = true → s.hub.takes p f = true →
     let g := s.hub.took p f
     exec (.bistReceived p f) s = .next (ends (g.closeFrame p) s) ∧ g.prd p PD_CNT1.rx_good = min 0xFFFF (s.hub.prd p PD_CNT1.rx_good + 1) ∧
       g.lastId p f = some f.id ∧ (g.port p).ringCount = (s.hub.port p).ringCount + 1 ∧ g.seq = s.hub.seq + 1 ∧
       g.ledger = s.hub.ledger ∧ g.logRing = s.hub.logRing)

/-- What R141 answers at once, each from what the port may say: capabilities of either kind, status, extended capabilities,
the identity of the card, keep-alive and entry of EPR mode; and Not_Supported, or Reject to a partner at PD 2.0, where the
port does not support the message (R133, R140). -/
def Obligations.MessagesAnswered : Prop :=
  ∀ (p : Fin 16) (f : RxFrame) (source : Bool) (u : Unsupported) (s : State), portUp p s = true →
    s.hub.takes p f = true →
    let g := s.hub.took p f
    let no : Msg := if g.prd p PD_STATUS.partner_rev = 1 then .reject else .notSupported
    let src := g.pis p PD_STATUS.power_role
    let rev3 := g.prd p PD_STATUS.partner_rev != 1
    let dual := (g.port p).role == 2
    let rdo := match (g.port p).deal with | some d => d.rdo.eprCapable | none => false
    let ran : Instr → Hub → Prop := fun c h => exec c s = .next (ends (h.closeFrame p) s)
    let mayEnter := g.pis p PD_CTRL.epr_allow && g.part.large && g.prd p PD_STATUS.contract == 2
    (∀ c m, (c, m) ∈ ([(.getSinkCapReceived p f, if src && !dual then no else .sinkCaps false (g.sinkPdos p false)),
        (.getStatusReceived p f, if rev3 then .status else no),
        (.getPpsStatusReceived p f, if src && rev3 && decide (2 ≤ g.prd p PD_STATUS.contract) && g.prd p CONTRACT_PWR.kind != 0
          then .ppsStatus else no),
        (.getSourceCapExtReceived p f, if src && rev3 then .sourceCapsExt else no),
        (.getSinkCapExtReceived p f, if rev3 then .sinkCapsExt else no),
        (.eprKeepaliveReceived p f, if src && rev3 then .eprKeepAliveAck else no),
        (.eprGetCapReceived p f source, if !g.part.large || !rev3 || !(src == source || dual) then no
          else if source then .sourceCaps true (g.sourcePdos p (g.offer p) true) else .sinkCaps true (g.sinkPdos p true)),
        (.discoverIdentityReceived p f, if g.card.identity.isEmpty then .vdmNak else .vdmAck g.card.identity),
        (.unsupportedMessageReceived p f u, if u = .structuredVdm then .vdmNak else no)] : List (Instr × Msg)) →
      ran c (g.send p m)) ∧
    (src = true → ran (.getSourceCapReceived p f) (g.answerCaps p)) ∧
    (src = false → ran (.getSourceCapReceived p f)
      (g.send p (if dual then .sourceCaps false (g.sourcePdos p (g.offer p) false) else no))) ∧
    (src = false ∨ rev3 = false → ran (.eprModeEnterReceived p f) (g.send p no)) ∧
    (src = true → rev3 = true →
      let on := g.pwr p PD_STATUS.ams 4
      ran (.eprModeEnterReceived p f) (if !mayEnter then on.send p (.eprFailed 4)
        else if !rdo then on.send p (.eprFailed 2)
        else (on.mapPort p fun x => { x with eprEntry := true }).send p .eprEnterAck)) ∧
    ran (.eprModeExitReceived p f) (if (g.exitEpr p).isSource p then (g.exitEpr p).answerCaps p else g.exitEpr p)

/-- A Request as source (R157–R160, R168, R183): one that the acknowledged capabilities do not allow is rejected; a valid
one, without a speculative claim, is claimed for: granted it is answered Accept and becomes the pending contract, else Wait
and the contract stays (R164). A sink refuses it; while a Hard Reset runs it gets no reply (R159). A Request while a transition
is pending or in progress leads to Hard Reset. A Request that can be predicted, and that is not seen to be invalid, is claimed
for at its header (R154, R155, R160); from there on the port starts nothing of its own until it is whole (R134, R165). -/
def Obligations.RequestsAnswered : Prop :=
  ∀ (p : Fin 16) (f : RxFrame) (epr : Bool) (r : Rdo) (part : RdoSoFar) (s : State), portUp p s = true →
    (s.hub.takes p f = true →
      let g := s.hub.took p f
      let ran : Hub → Prop := fun h => exec (.requestReceived p f epr r) s = .next (ends (h.closeFrame p) s)
      (g.isSource p = false → ran (g.refuse p)) ∧
      (g.isSource p = true → (g.port p).hr ≠ .none → ran (g.discardSpec p)) ∧
      (g.isSource p = true → (g.port p).hr = .none → (g.port p).pending ≠ none ∨ g.pis p PD_STATUS.in_transition = true →
        ran (g.hardReset p true)) ∧
      (g.isSource p = true → (g.port p).hr = .none → (g.port p).pending = none → g.pis p PD_STATUS.in_transition = false →
        g.runs p .senderResponse = false → g.runs p .pps = false → r.eprCapable = false →
        let kept := (g.gotReply p).mapPort p fun x => { x with prevRdo := some r, lastRequest := g.sun.clk }
        (requestValid (g.port p).acked (g.eprMode p) epr r = false →
          ran ((kept.discardSpec p).send p .reject)) ∧
        (∀ d, (g.port p).spec = none → portEntry g.es p [.tentative, .waiting] = none →
          requestValid (g.port p).acked (g.eprMode p) epr r = true → g.dealOf p epr r = some d →
          let asked := (kept.stop p .promptHold).claim p
            { kind := .request, power := d.power, raise := d.raise, pps := d.pdo.kind != .fixed, spec := false, volt := d.volt }
          ran (if asked.crd p PE_ANSWER.answer = 1 then asked.releaseAccept p d else asked.releaseWait p) ∧
          ((asked.releaseAccept p d).port p).pending = some d ∧
          (asked.releaseWait p).pis p PD_STATUS.wait_held = true ∧
          ((asked.releaseWait p).port p).deal = (asked.port p).deal))) ∧
    (let on := s.hub.mapPort p fun x => { x with arriving := true }
     (s.hub.attached p = true → (s.hub.port p).pdOn = true →
        exec (.speculativeClaim p epr part) s = .next (ends (on.speculate p epr part) s)) ∧
      (s.hub.attached p = false ∨ (s.hub.port p).pdOn = false →
        exec (.speculativeClaim p epr part) s = .next (ends s.hub s)) ∧
      (s.hub.pis p PD_CTRL.spec_enable = false → on.speculate p epr part = on) ∧
      (visiblyInvalid (s.hub.port p).acked (s.hub.eprMode p) part = true → on.speculate p epr part = on) ∧
      (part.pos = some 0 → visiblyInvalid (s.hub.port p).acked (s.hub.eprMode p) part = true) ∧
      ((s.hub.port p).prevRdo = none → s.hub.tc p = 7 → s.hub.isSource p = true → (s.hub.port p).pdOn = true →
        s.hub.pis p PD_CTRL.spec_enable = true → (s.hub.port p).spec = none →
        portEntry s.hub.es p [.tentative] = none → (s.hub.port p).pending = none →
        s.hub.pis p PD_STATUS.in_transition = false → epr = false → s.hub.autoHeld p = false →
        visiblyInvalid (s.hub.port p).acked (s.hub.eprMode p) part = false →
        let w := portPower s.hub.es p [.shadow]
        let c := on.claim p { kind := .request, power := w, raise := true, spec := true }
        on.speculate p epr part = ((c.mapPort p fun x =>
          { x with spec := some ⟨epr, none, w⟩ }).buildFrames p).showWait p))

/-- Data that a partner sends (R141, R169, R211, R151): its capabilities, status and identity are stored, and as sink
Source_Capabilities are answered with the Request that the port chooses; an Alert is noted and asked after. -/
def Obligations.PartnerDataStored : Prop :=
  ∀ (p : Fin 16) (f : RxFrame) (epr b : Bool) (pdos : List Pdo) (k : StatusKind) (id : Identity) (s : State),
    portUp p s = true → s.hub.takes p f = true →
    let g := s.hub.took p f
    let ran : Instr → Hub → Prop := fun c h => exec c s = .next (ends (h.closeFrame p) s)
    (ran (.sourceCapabilitiesReceived p f epr pdos) (g.sourceCapsReceived p epr pdos) ∧
      ((g.sourceCapsReceived p epr pdos).port p).partnerSource = pdos ∧
      (g.sourceCapsReceived p epr pdos).pis p BIV_PORT.src_caps_valid = true) ∧
    (ran (.sinkCapabilitiesReceived p f epr pdos) (g.sinkCapsReceived p epr pdos) ∧
      (g.isSource p = true → ((g.sinkCapsReceived p epr pdos).port p).partnerSink = pdos.filter (· != Pdo.zero))) ∧
    (∀ charge capacity, k = .battery true charge capacity → charge.val ≠ 3 →
      let said := (((g.storeData p f).pwr p BATT_STATUS.valid 1).pwr p BATT_STATUS.charge charge.val).pwr p BATT_STATUS.capacity
        capacity.toNat
      let kept := (said.mapPort p fun x => { x with battClk := some g.sun.clk }).pwr p PD_EVENT.batt_update 1
      ran (.statusDataReceived p f k) (kept.endAsked p)) ∧
    (k = .status ∨ k = .ppsStatus ∨ k = .sourceCapsExt → ran (.statusDataReceived p f k) ((g.storeData p f).endAsked p)) ∧
    (let told := ((g.pwr p PD_EVENT.partner_alert 1).portEvent p .partnerAlert 0).storeData p f
     ran (.alertReceived p f b) (if b && (told.startAms p .getStatus).pd3 p then
       (told.startAms p .getStatus).startAms p .getBattery else told.startAms p .getStatus)) ∧
    (ran (.vdmResponseReceived p f id) (g.identityReceived p f id) ∧
      (∀ vid active e maxV maxI, id = .cable vid active e maxV maxI → g.prd p PD_STATUS.ams ≠ 5 →
        let i := if maxI.val = 3 then 0 else maxI.val
        let c := g.identityReceived p f id
        c.prd p CABLE_ID.vid = vid.toNat ∧ c.pis p CABLE_ID.active = active ∧ c.prd p CABLE_ID.max_i = i ∧
          c.prd p CABLE_ID.max_v = maxV.val ∧ c.pis p CABLE_ID.valid = true ∧ c.pis p PD_STATUS.cable_valid = true ∧
          c.prd p PD_STATUS.cable_5a = (if i = 2 then 1 else 0)))

/-- Replies to the hub's own messages (R141, R170, R174, R229): Accept of its Request starts the wait for PS_RDY, Wait keeps
the contract and repeats the Request, Reject drops it, PS_RDY brings the contract into force; outside an AMS each of them
leads to Soft_Reset. A Soft_Reset is answered Accept, or with Hard Reset in a transition; a Hard Reset acts at once. -/
def Obligations.RepliesReceived : Prop :=
  ∀ (p : Fin 16) (f : RxFrame) (w : Word) (s : State), portUp p s = true →
    (s.hub.takes p f = true →
      let g := s.hub.took p f
      let ran : Instr → Hub → Prop := fun c h => exec c s = .next (ends (h.closeFrame p) s)
      ((g.port p).stale = false → (g.port p).awaiting = some (.request w) →
        ran (.acceptReceived p f) ((((g.gotReply p).abortLeak p).pwr p PD_STATUS.in_transition 1).start p .sinkPsRdy 500000) ∧
        ran (.waitReceived p f) (((g.endAms p).pwr p PD_STATUS.wait_held 1).start p .sinkWait 100000) ∧
        ran (.rejectReceived p f) ((g.mapPort p fun x => { x with asked := none }).endAms p) ∧
        ran (.notSupportedReceived p f)
          (((g.portEvent p .notSupportedRx 0).mapPort p fun x => { x with asked := none }).endAms p)) ∧
      ((g.port p).stale = true → ∀ c ∈ [Instr.acceptReceived p f, .waitReceived p f, .rejectReceived p f],
        ran c (g.mapPort p fun x => { x with stale := false })) ∧
      ((g.port p).stale = false → (g.port p).awaiting = none →
        ∀ c ∈ [Instr.acceptReceived p f, .waitReceived p f, .rejectReceived p f], ran c (g.sendSoftReset p)) ∧
      (∀ d, (g.port p).swap = none → (g.port p).frs = .none → g.runs p .sinkPsRdy = true → (g.port p).asked = some d →
        ran (.psRdyReceived p f) ((g.stop p .sinkPsRdy).enterSinkContract p d)) ∧
      ((g.port p).swap = none → (g.port p).frs = .none → g.runs p .sinkPsRdy = false →
        ran (.psRdyReceived p f) (g.sendSoftReset p)) ∧
      ((g.port p).pending ≠ none ∨ g.pis p PD_STATUS.in_transition = true →
        ran (.softResetReceived p f) (g.hardReset p true)) ∧
      ((g.port p).pending = none → g.pis p PD_STATUS.in_transition = false → ran (.softResetReceived p f)
        ((((g.pbump p PD_CNT2.soft_reset).softResetEffects p).pwr p PD_STATUS.ams 8).send p .acceptSoftReset))) ∧
    ((s.hub.port p).pdOn = true → exec (.hardResetReceived p) s = .next (ends (s.hub.hardReset p false) s)) ∧
    ((s.hub.port p).pdOn = false → exec (.hardResetReceived p) s = .next (ends s.hub s))

/-- A Hard Reset of an attached port, sent or received (R175–R177): counted, the contract and every frame gone, MessageID
counters at 0; as source VBUS goes off when its 25 ms run out, as sink VBUS has 1.5 s to come back; a VCONN source is to discover
its cable again (R243). A port without a partner takes none. -/
def Obligations.HardResets : Prop :=
  ∀ (p : Fin 16) (sent : Bool) (h : Hub), h.present p = true →
    (h.attached p = false → h.hardReset p sent = h) ∧
    (h.attached p = true →
      let g := h.hardReset p sent
      g.prd p PD_STATUS.contract = 0 ∧ g.prd p PD_STATUS.ams = 7 ∧ g.pis p PD_STATUS.in_transition = false ∧
        g.pis p PD_STATUS.epr_mode = false ∧ g.pis p PD_STATUS.cable_5a = false ∧
        (g.port p).txq = [] ∧ (g.port p).amsq = [] ∧ (g.port p).txId = 0 ∧ (g.port p).rxId = none ∧
        (g.port p).pending = none ∧ (g.port p).deal = none ∧ g.mem = h.mem ∧
        (h.vconnSource p = true → (g.port p).rediscover = true) ∧ (g.port p).cableAnswered = false ∧
        (h.isSource p = true → g.runs p .hrVbusOff = true) ∧
        (h.isSource p = false → g.runs p .sinkHr = true))

/-- What a GoodCRC goes on with (R131, R132, R143): the frame on the wire is done with and the MessageID counts on; without
one it is repeated, twice to a PD 3.x partner and three times to a PD 2.0 one, and then counted as failed, with Hard Reset
or Soft_Reset to follow. A frame with a bad CRC and one on a SOP type that is not answered are counted (R130, R158). -/
def Obligations.TransmissionEnds : Prop :=
  ∀ (p : Fin 16) (kind : Sop) (s : State), portUp p s = true →
    let h := s.hub
    (h.runs p .tReceive = true → exec (.goodcrcReceived p) s = .next (ends (h.goodCrc p) s)) ∧
    (∀ m rest, (h.port p).txq = m :: rest → m ≠ .discoverCable → (h.port p).drain ≠ .frame →
      let sent := (h.stop p .tReceive).mapPort p fun x => { x with txq := rest, txId := x.txId + 1 }
      h.goodCrc p = ((sent.stamp p.val).acked p m).nextFrame p) ∧
    (h.runs p .tReceive = true → (h.port p).retries < (if h.prd p PD_STATUS.partner_rev = 1 then 3 else 2) →
      exec (.treceiveExpiry p) s = .next (ends (((h.stop p .tReceive).mapPort p
        fun x => { x with retries := x.retries + 1 }).start p .tReceive 1000) s)) ∧
    (h.runs p .tReceive = true → (if h.prd p PD_STATUS.partner_rev = 1 then 3 else 2) ≤ (h.port p).retries →
      exec (.treceiveExpiry p) s = .next (ends ((h.stop p .tReceive).txFailed p) s)) ∧
    (∀ m rest, (h.port p).txq = m :: rest → (h.port p).drain ≠ .frame →
      m ∈ [Msg.psRdy, .psRdySwap, .acceptTransition, .softReset] →
      h.txFailed p = ((h.pbump p PD_CNT2.tx_fail).mapPort p fun x => { x with txq := rest }).hardReset p true) ∧
    (h.attached p = true → (h.port p).pdOn = true →
      exec (.frameCrcError p) s = .next (ends ((h.pbump p PD_CNT1.rx_crc_err).dropArrival p) s) ∧
        (h.pbump p PD_CNT1.rx_crc_err).prd p PD_CNT1.rx_crc_err = min 0xFFFF (h.prd p PD_CNT1.rx_crc_err + 1) ∧
      (kind = .sopPP ∨ kind = .dbg ∨ kind = .sopP ∧ h.vconnSource p = false →
        exec (.ignoredFrame p kind) s = .next (ends (h.pbump p PD_CNT3.rx_ignored) s) ∧
          (h.pbump p PD_CNT3.rx_ignored).prd p PD_CNT3.rx_ignored = min 0xFFFF (h.prd p PD_CNT3.rx_ignored + 1)))

/-- Timers of messaging as source and in general (R134, R138, R142, R150–R152, R168, R173, R175): each acts when it runs
out and, where it repeats, starts again. -/
def Obligations.SourceTimers : Prop :=
  ∀ (p : Fin 16) (s : State), portUp p s = true →
    let h := s.hub
    (h.runs p .chunk = true → exec (.chunkTimeout p) s =
      .next (ends (((h.stop p .chunk).mapPort p fun x => { x with chunkData := [], chunkOut := none }).endAms p) s)) ∧
    (h.runs p .discover = true →
      ((h.port p).discTries < 3 → (h.port p).discTotal < 20 → h.vconnSource p = true → exec (.discoverIdentityRetry p) s =
        .next (ends (((h.stop p .discover).pwr p PD_STATUS.ams 5).send p .discoverCable) s)) ∧
      (3 ≤ (h.port p).discTries → exec (.discoverIdentityRetry p) s =
        .next (ends ((h.stop p .discover).afterDiscovery p) s))) ∧
    (h.runs p .srcCaps = true → h.isSource p = true → h.explicit p = false → exec (.srcCapsResend p) s =
      .next (ends (((h.stop p .srcCaps).mapPort p fun x => { x with capsSent := x.capsSent + 1 }).startAms p
        (.sourceCaps false [])) s)) ∧
    (h.runs p .senderResponse = true →
      (exec (.senderResponseTimeout p) s = .next (ends ((h.stop p .senderResponse).noReply p) s)) ∧
      (∀ w, (h.port p).awaiting = some (.request w) ∨ (h.port p).awaiting = some .softReset →
        (h.stop p .senderResponse).noReply p =
          ((h.stop p .senderResponse).mapPort p fun x => { x with awaiting := none }).hardReset p true)) ∧
    (h.runs p .battery = true →
      let on := (h.stop p .battery).start p .battery 30000000
      exec (.batteryPoll p) s = .next (ends (if h.pis p PD_CTRL.batt_poll && h.isSource p && h.pd3 p && !h.autoHeld p then
        on.startAms p .getBattery else on) s)) ∧
    (h.runs p .pps = true → exec (.ppsTimeout p) s = .next (ends ((h.stop p .pps).hardReset p true) s)) ∧
    (h.runs p .eprSource = true → exec (.eprSourceTimeout p) s = .next (ends ((h.stop p .eprSource).hardReset p true) s)) ∧
    (h.runs p .sinkTx = true → exec (.sinkTxNgExpiry p) s = .next (ends ((h.stop p .sinkTx).pump p) s)) ∧
    (h.runs p .hrVbusOff = true →
      let off := ((((h.stop p .hrVbusOff).targetOff p).dsOn p).vconnOff p).pwr p PORT_STATUS.vsafe5 0
      let g := ((off.bc12Update p).mapPort p fun x => { x with hr := .off })
      exec (.hardResetVbusOff p) s =
        .next (ends (g.start p .hrRecover (g.prd p PD_TIMER.src_recover * 10000)) s)) ∧
    (h.runs p .hrRecover = true →
      let back := (h.stop p .hrRecover).mapPort p fun x => { x with hr := .recovering }
      let on := if (h.port p).vconnDuty then back.vconnApply p else back
      let g := on.claimLevels p (on.port p).rpLevel
      exec (.hardResetRecover p) s = .next (ends (if g.crd p PE_ANSWER.answer = 1 then g.turnOn p else g) s))

/-- Timers of a port as sink (R170, R176) and of a transition as source (R162, R163): a Request is repeated after Wait, every
8 s under PPS, with a keep-alive every 375 ms in EPR mode; PS_RDY or VBUS that does not come leads to Hard Reset or detach;
an accepted lowering moves the set-point 25 ms after its Accept, and PS_RDY follows the slew. -/
def Obligations.SinkAndTransitionTimers : Prop :=
  ∀ (p : Fin 16) (d : Deal) (s : State), portUp p s = true →
    let h := s.hub
    let again : Hub → Hub := fun g => (g.pwr p PD_STATUS.wait_held 0).sinkRequest p d.rdo d.pdo d.epr
    ((h.port p).asked = some d →
      (h.runs p .sinkWait = true → exec (.sinkWaitRetry p) s = .next (ends (again (h.stop p .sinkWait)) s)) ∧
      (h.runs p .sinkPps = true →
        exec (.sinkPpsRefresh p) s = .next (ends (again ((h.stop p .sinkPps).start p .sinkPps 8000000)) s))) ∧
    ((h.port p).pending = some d →
      (h.runs p .lowering = true → exec (.loweringSetpoint p) s =
        .next (ends (((h.stop p .lowering).writeVset p d.volt).writeIlim p (contractLimit d.pdo d.rdo)) s)) ∧
      (h.runs p .psRdy = true → d.raise = false → exec (.psRdyTimer p) s =
        .next (ends (((h.stop p .psRdy).writeIlim p (contractLimit d.pdo d.rdo)).send p .psRdy) s)) ∧
      (h.runs p .psRdy = true → d.raise = true → exec (.psRdyTimer p) s =
        .next (ends ((h.stop p .psRdy).send p .psRdy) s)) ∧
      (h.pis p PD_STATUS.in_transition = true → (h.port p).vsetEff = d.volt → (h.port p).vsetHeld = none →
        h.runs p .lowering = false → h.runs p .psRdy = false → (h.contractTarget p).1 ≠ d.volt → h.isSource p = true →
        (h.port p).txq = [] →
        let at_ := if (h.stepTo p d.volt).forward p then (h.stepTo p d.volt).setStage p stRegulate else h.stepTo p d.volt
        let g := (at_.pwr p PORT_STATUS.vsafe5 (if 475 ≤ d.volt ∧ d.volt ≤ 550 then 1 else 0)).pwr p PORT_STATUS.vsafe0 0
        exec (.transitionComplete p) s = .next (ends (g.send p .psRdy) s))) ∧
    (h.runs p .sinkPsRdy = true →
      exec (.sinkPsRdyTimeout p) s = .next (ends ((h.stop p .sinkPsRdy).hardReset p true) s)) ∧
    (h.runs p .sinkEpr = true → exec (.sinkEprKeepalive p) s =
      .next (ends (((h.stop p .sinkEpr).start p .sinkEpr 375000).send p .eprKeepAlive) s)) ∧
    (h.runs p .sinkHr = true →
      (h.pis p PORT_STATUS.vsafe5 = false →
        exec (.sinkHardResetTimeout p) s = .next (ends ((h.stop p .sinkHr).detach p) s)) ∧
      (h.pis p PORT_STATUS.vsafe5 = true →
        exec (.sinkHardResetTimeout p) s = .next (ends ((((h.stop p .sinkHr).mapPort p
          fun x => { x with hr := .none }).endAms p).pwr p PD_STATUS.contract 1) s)))

/-! ### The Hamper (chapter 05) -/

/-- The Hamper's own events: a prompt that is not answered in prompt_hold clears, and the queue is served without it (R205);
a cut that is not answered in cut_limit leads to Hard Reset (R215); slots 0 to 3 give the ramp positions, the audit and the
rack share their stamps (R80, R218, R221, R539); a start whose position a slew has moved out of its window on the core clock
waits for the window's end there, and an override starts when its own time has come (R221, R223); a burst is noted where burst_detect is
on (R209). -/
def Obligations.HamperEvents : Prop :=
  ∀ (p : Fin 16) (slot : Fin 2) (i : Fin 64) (s : State), portUp p s = true →
    let h := s.hub
    (h.runs p .promptHold = true → h.ledger.undo = [] → portEntry h.es p [.waiting] = some i → h.es[i].prompted = true →
      exec (.promptHoldExpiry p) s = .next (ends ((((h.stop p .promptHold).stamp 19).setEntry i
        { h.es[i] with prompted := false }).serveQueueBut (some i)) s)) ∧
    (h.runs p .cutLimit = true → portEntry h.es p [.committed] = some i →
      (h.es[i].overCut = true → exec (.cutLimitExpiry p) s = .next (ends ((h.stop p .cutLimit).hardReset p true) s)) ∧
      (h.es[i].overCut = false → exec (.cutLimitExpiry p) s = .next (ends (h.stop p .cutLimit) s))) ∧
    (∀ n : Fin 32, h.slotDue n.val = true → h.slotBusy n.val = true ∧ h.slotAhead n.val = false) ∧
    (h.slotDue 2 = true →
      exec .audit s = .next (ends (((h.stamp 18).setAuditSlot (h.slotTick 2)).audit) s)) ∧
    (h.slotDue slot.val = true →
      let c : Word := BitVec.ofNat 32 (h.rd (SLOT_TGT_CYCLE.cycle slot.val))
      let a : BitVec 16 := BitVec.ofNat 16 (h.rd (SLOT_TGT_ANGLE.angle slot.val))
      let g := (h.stamp 18).setRampSlot slot.val (max (h.slotTick (1 - slot.val)) (h.slotTick slot.val))
      exec (.rampPosition slot) s =
        .next (ends ((g.each (h.ledger.ramps.filter fun r => due c a r.at_) fun r y =>
          if y.offWindow r then y.deferStart r else y.beginStart r).freshOne) s)) ∧
    (∀ r, h.ledger.ramps = [r] → r.port = p → r.kind ≠ .c → h.clockDue r = true →
      exec (.overrideStart p) s = .next (ends ((h.stamp 19).beginStart r) s)) ∧
    (∀ r, h.ledger.ramps = [r] → h.clockDue r = false → exec (.overrideStart p) s = .next (ends h s)) ∧
    (h.slotDue 3 = true →
      let g := (h.stamp 18).clearSlot 3
      (∀ v, h.rack.newShare = some v → exec .rackShareApply s =
        .next (ends (({ g with rack := { g.rack with newShare := none } } : Hub).takeShare v) s)) ∧
      (h.rack.newShare = none → exec .rackShareApply s = .next (ends g s))) ∧
    (h.is HAMPER_CTRL.burst_detect = true → h.tc p = 7 →
      exec (.burstDetect p) s = .next (ends (h.mapPort p fun x => { x with burst := true }) s)) ∧
    (h.is HAMPER_CTRL.burst_detect = false → exec (.burstDetect p) s = .next (ends h s))

/-- The audit (R219, R220): with every stored total equal to its sum and no limit passed it changes nothing; a stored total
that differs is captured with its node, the stored value and the sum, unless a capture is held, and source 29 latches. After
it every stored total is the sum of its node's entries, where no limit is found passed. -/
def Obligations.AuditsRebuildTotals : Prop :=
  ∀ h : Hub,
    ((∀ n ∈ h.auditNodes, h.auditNode n = none) → h.audit = h) ∧
    (∀ n x rest, (h.auditNodes.filterMap fun k => (h.auditNode k).map fun y => (k, y)) = (n, x) :: rest →
      (∀ k ∈ h.auditNodes, h.unlimited k.val = true ∨ h.auditCharge k.val ≤ h.nodeLimit k.val) →
      h.part.absentSource 29 = false →
      (h.audit).latched 29 = true ∧
        (h.is AUDIT_CAPTURE.valid = false → (h.audit).rd AUDIT_CAPTURE.node = n.val ∧
          (h.audit).rd AUDIT_CAPTURE.check = x.1) ∧
        ∀ k : Fin 21, (h.audit).ledger.totals[k] = nodeSums h.es k.val)

/-! ### Role swaps (chapter 06) -/

/-- A swap request that meets a request of the source hub's own is a collision and answered Wait (R232); else R228's table
answers it, and busy is held from the request until the answer has its GoodCRC, or to the end of the swap (R235). The steps that timers take (R229, R236, R239, R242, R243),
the recognition of a Fast Role Swap on an armed port (R247, R249), its source start (R248), and FR_Swap on a port that waits
for it or does not (R262, R263). -/
def Obligations.RoleSwaps : Prop :=
  ∀ (p : Fin 16) (f : RxFrame) (k : SwapKind) (s : State), portUp p s = true →
    let h := s.hub
    let c := match k with | .pr => Instr.prSwapReceived p f | .dr => .drSwapReceived p f | .vconn => .vconnSwapReceived p f
    (h.takes p f = true →
      let g := h.took p f
      let ran : Instr → Hub → Prop := fun c h => exec c s = .next (ends (h.closeFrame p) s)
      let held := (g.port p).swap.isSome || (g.port p).frs != .none
      (g.ownRequest p = true → g.isSource p = true →
        ran c (((g.pbump p SWAP_CNT.collisions).portEvent p .swapCollision k.code).send p .wait)) ∧
      (g.ownRequest p = false →
        (g.swapAnswer p k = .wait → ran c (if held then g.send p .wait else (g.pwr p SWAP_STATUS.busy 1).send p .waitSwap)) ∧
        (g.swapAnswer p k = .reject →
          ran c (if held then g.send p .reject else (g.pwr p SWAP_STATUS.busy 1).send p .rejectSwap)) ∧
        (g.swapAnswer p k = .accept → k ≠ .pr ∨ g.isSource p = true →
          let busy := ((g.pwr p SWAP_STATUS.busy 1).pwr p SWAP_STATUS.last k.code).pwr p SWAP_STATUS.result 0
          let mine := (busy.mapPort p fun x => { x with swap := some ⟨k, false, .acceptSent, 0⟩ }).pwr p PD_STATUS.ams 3
          ran c (mine.send p (.acceptSwap k)) ∧ mine.pis p SWAP_STATUS.busy = true)) ∧
      (g.runs p .frsMsg = true →
        ran (.frSwapReceived p f) ((g.stop p .frsMsg).send p .acceptFrs)) ∧
      (g.runs p .frsMsg = false → (g.port p).frs = .none →
        ran (.frSwapReceived p f) (g.hardReset p true))) ∧
    (∀ w, h.runs p .swapWait = true → (h.port p).swap = some w →
      exec (.swapWaitRetry p) s = .next (ends ((h.stop p .swapWait).startAms p (.swapRequest w.kind)) s)) ∧
    (h.runs p .prSourceOff = true →
      let off := ((((h.stop p .prSourceOff).targetOff p).passOff p).dsOn p).pwr p PORT_STATUS.vsafe5 0
      let freed := (((off.stamp p.val).freeEntry p [.committed]).dropRamp p).liftTrim p
      exec (.prSwapSourceOff p) s =
        .next (ends ((((freed.endContract p).exitEpr p).swapStep p .sourceOff).start p .prPsRdy 650000) s)) ∧
    (h.runs p .prPsRdy = true → exec (.prSwapPsRdyTimeout p) s =
      .next (ends ((((h.stop p .prPsRdy).portEvent p .swapFailed 0).endSwap p 5).safeNow p) s)) ∧
    (h.runs p .vconnReady = true →
      exec (.vconnSwapLaneReady p) s = .next (ends ((h.stop p .vconnReady).send p .psRdySwap) s)) ∧
    (h.runs p .vconnPsRdy = true →
      exec (.vconnSwapTimeout p) s = .next (ends (((h.stop p .vconnPsRdy).endSwap p 5).hardReset p true) s)) ∧
    (h.tc p = 4 → h.pis p SWAP_STATUS.frs_armed = true → (h.port p).frs = .none →
      portEntry h.es p [.tentative] = none →
      let seen := ((h.portEvent p .frsRx 0).endSwap p 5).dropSpec p
      let busy := ((seen.pwr p SWAP_STATUS.busy 1).pwr p SWAP_STATUS.last 5).pwr p SWAP_STATUS.result 0
      let gone : PortH → PortH := fun x =>
        { x with frs := .recognised, txq := [], amsq := [], pending := none, asked := none, chunkOut := none,
                 arriving := false }
      let g := (busy.mapPort p gone).stopAllBut p [.inrush, .gate]
      exec (.frsSignal p) s = .next (ends (g.pwr p PD_STATUS.ams 3) s)) ∧
    (h.pis p SWAP_STATUS.frs_armed = false → exec (.frsSignal p) s = .next (ends h s)) ∧
    ((h.port p).frs = .recognised → portEntry h.es p [.standby] = none →
      let code := h.prd p PARTNER_INFO.frs_current
      let amp := frsCurrent code
      let on := ((((h.pwr p STAGE_CTRL.mode 1).pwr p STAGE_CTRL.cl_kind 0).pwr p STAGE_CTRL.frs_arm 0).dropRaises p).stepTo
        p 500
      let lim := (on.pwr p STAGE_VSET.vset 500).pwr p STAGE_ILIM.ilim_set amp
      let go := (lim.mapPort p fun x => { x with ilimEff := amp, implicitTry := code - 1 }).setStage p stRegulate
      let g := ((((go.stamp p.val).endContract p).exitEpr p).pwr p PD_STATUS.contract 1).pwr p SWAP_STATUS.frs_armed 0
      exec (.frsSourceStart p) s =
        .next (ends ((g.mapPort p fun x => { x with frs := .frSwapSent }).send p .frSwap) s))

/-! ### Engines that fail, fault sources, the Check Unit (chapters 10, 12 and 13) -/

/-- A watchdog halts a supervisor with source 23 or 24 (R385), and a port engine with source 25 (R397); a supervisor that
is HALTING reads HALTED (R395); Flask mode restarts supervisor A once, after 10 ms (R392), and its end puts every port that is not at
rest into safe state (R394); the scrubber reads the next word (R407); a monitor's condition latches its source (R351, R454);
the flash ring takes the oldest event (R479, R480); a scan that has read its range ends (R490, R493). -/
def Obligations.EnginesAndMonitors : Prop :=
  ∀ (b : Bool) (p : Fin 16) (c : Fin 2) (s : State), portUp p s = true →
    let h := s.hub
    (h.hasSup b = true → h.sup b = 1 ∨ h.sup b = 4 → h.power = .run → h.supDeadline b ≤ h.sun.clk →
      let both := h.supWatched (!b) && h.supDeadline (!b) == h.supDeadline b
      let g := ((h.setSup b 3).latchMonitor (if b then 24 else 23)).supStopped b 2 both
      exec (.supervisorWatchdog b) s = .next (ends g s) ∧ g.sup b = 3 ∧ g.latched (if b then 24 else 23) = true ∧
        (both = true → g.rd ENG_STATUS.primary = h.rd ENG_STATUS.primary)) ∧
    (h.sun.clk < h.supDeadline b → exec (.supervisorWatchdog b) s = .next (ends h s)) ∧
    (h.hasSup b = true → h.sup b = 2 →
      exec (.supervisorHalted b) s = .next (ends (h.supStopped b 1 false) s) ∧ (h.supStopped b 1 false).sup b = 3) ∧
    (h.is ENG_STATUS.flask = true → h.is ENG_CTRL.flask_restart = true → h.is ENG_STATUS.flask_restarted = false →
      h.rd ENG_STATUS.state_a = 3 → h.flaskClk + 3000000 ≤ h.sun.clk →
      exec .flaskRestart s = .next (ends ((h.wr ENG_STATUS.flask_restarted 1).restartSup false) s)) ∧
    (h.is ENG_STATUS.flask = true → h.is ENG_STATUS.flask_expired = false →
      h.flaskClk + h.rd FLASK_CFG.flask_limit * 300000000 ≤ h.sun.clk →
      let g := h.wr ENG_STATUS.flask_expired 1
      exec .flaskExpired s = .next (ends ((g.each (h.presentPorts.filter fun q =>
        h.tc q != 0 && h.tc q != 10 && h.tc q != 11) Hub.safeState).event 24 { ev := .flaskExpired }) s)) ∧
    (h.peHalted p = false → h.peKick[p] + h.rd PE_CFG.pe_wdt * 300000 ≤ h.sun.clk →
      let g := (h.latchMonitor 25).haltPe p 2
      exec (.peWatchdog p) s = .next (ends g s) ∧ g.peHalted p = true ∧ g.latched 25 = true) ∧
    (h.peHalted p = true ∨ h.sun.clk < h.peKick[p] + h.rd PE_CFG.pe_wdt * 300000 →
      exec (.peWatchdog p) s = .next (ends h s)) ∧
    (h.is SCRUB_CTRL.enable = true → let a := h.rd SCRUB_POS.next
      exec .scrubRead s = .next (ends (((h.wr SCRUB_POS.next (h.scrubNext a)).readWord a 24 5).1) s)) ∧
    (∀ i n m, (i, n, m) ∈ ([(.vhubOver, 41, { h.monitors with vhubOver := true }),
        (.vhubUnder, 42, { h.monitors with vhubUnder := true }), (.buckFault, 44, { h.monitors with buckFault := true }),
        (.dieTempWarning, 45, { h.monitors with dieWarm := true }),
        (.dieTempShutdown, 46, { h.monitors with dieWarm := true, dieHot := true }),
        (.clockFault, 47, { h.monitors with clockBad := true }),
        (.debugAccess, 57, { h.monitors with debugHeld := true })] : List (Instr × Nat × Monitors)) →
      let g : Hub := { h with monitors := m }
      exec i s = .next (ends (g.latch n ⟨31, 7, 0⟩) s) ∧ (h.part.absentSource n = false →
        (g.latch n ⟨31, 7, 0⟩).latched n = true ∧ (g.latch n ⟨31, 7, 0⟩).seq = h.seq + 1)) ∧
    (∀ x rest, h.flashQueue = x :: rest →
      exec .flashRingWrite s = .next (ends (({ h with flashQueue := rest } : Hub).writeRing x) s)) ∧
    (h.scanning c = true → exec (.checkDone c) s = .next (ends (endScan c (h.scanWords c (h.wordsLeft c))) s))

/-- What a latch records (R456, R461, R466, R467, R469): its bits in FAULT_STATUS and FAULT_NEW set and no other clears; the
first one since the capture was freed is captured with its source, master, access type, address and stamp, a later one
counted; at severity PORT_SAFE or HUB_SAFE it calls for the safe states. -/
def Obligations.LatchesRecord : Prop :=
  ∀ (n : Fin 64) (a : Access) (d : Nat) (h : Hub), h.part.absentSource n.val = false → a.master < 32 → a.kind < 8 →
    let g := h.latchShared n.val a d
    g.latched n.val = true ∧ g.pairBit 0x3002 n.val = true ∧
      (∀ k : Fin 64, k ≠ n → g.latched k.val = h.latched k.val ∧ g.pairBit 0x3002 k.val = h.pairBit 0x3002 k.val) ∧
      (h.is CAP_INFO.valid = false → g.is CAP_INFO.valid = true ∧ g.rd CAP_INFO.source = n.val ∧
        g.rd CAP_INFO.master = a.master ∧ g.rd CAP_INFO.access = a.kind ∧ g.word 0x3011 = a.addr ∧
        g.word 0x3012 = h.sun.cycle ∧ g.word 0x3013 = h.seq ∧ g.word 0x3014 = h.sun.angle.setWidth 32) ∧
      (h.is CAP_INFO.valid = true → g.rd CAP_INFO.source = h.rd CAP_INFO.source ∧ g.word 0x3011 = h.word 0x3011) ∧
      (1 ≤ h.severity n.val → g.is HOST_STATUS.whistle_pending = true) ∧
      (h.severity n.val = 3 → g.hubSafe = h.hubSafe ||| BitVec.ofNat 64 (2 ^ n.val) ∧
        ∀ q, h.present q = true → q ∈ g.safeDue) ∧
      (∀ q : Fin 16, q.val = n.val → h.severity n.val = 2 → q ∈ g.safeDue) ∧
      (h.severity n.val ≤ 1 → g.safeDue = h.safeDue) ∧ g.mem = h.mem ∧ g.ledger = h.ledger

/-! ### Firmware (chapter 16) -/

/-- Denoc frames (R552–R557): one that repeats the last sequence is answered with the last reply again, one out of order or
during a job is NACKed SEQUENCE or BUSY, with nothing executed; one in order is counted and executed as R556 says. A break
opens a session at 115 200 to 3 000 000 baud, which closes 10 s after the last valid frame; a bad frame is counted with
source 39 and NACKed where its head arrived. Each completes with this as its own effect. The bytes of an ACK and of the echo
go out as R552 and R553 lay them out. That a repeat of the command whose job still runs gets no reply yet is the model's
choice (log entry 116). -/
def Obligations.DenocFrames : Prop :=
  ∀ (seq slot flags rows type_ : BitVec 8) (angle key first : BitVec 16) (cycle off : Word) (bytes : List Byte)
    (baud : BitVec 16) (s : State), s.hub.up = true →
    let h := s.hub
    let all : List (BitVec 8 × Instr) := [(1, .denocInfo seq), (2, .denocEraseSlot seq slot), (3, .denocWrite seq off bytes),
      (4, .denocVerify seq slot), (5, .denocSchedule seq cycle angle flags), (6, .denocActivateNow seq slot),
      (7, .denocReadLog seq first rows), (8, .denocEnterBasecamp seq key)]
    (∀ t c, (t, c) ∈ all ∨ knownType type_ = false ∧ t = type_ ∧ c = .denocUnknownType seq type_ →
      (h.session = false → exec c s = .next (ends h s)) ∧
      (h.session = true → h.jobSeq = none → h.fw.lastSeq = some seq →
        exec c s = .next (ends (h.heard.sendReply h.fw.reply) s) ∧
        (h.heard.sendReply h.fw.reply).fw.sent = h.fw.reply.bytes ∧ (h.heard.sendReply h.fw.reply).regs = h.regs) ∧
      (∀ q, h.session = true → h.jobSeq = none → h.fw.lastSeq = some q → seq ≠ q → seq ≠ q + 1 →
        exec c s = .next (ends (h.heard.nack t seq 2 []) s)) ∧
      (∀ q, h.session = true → h.jobSeq = some q →
        (q ≠ seq → exec c s = .next (ends (h.heard.nack t seq 12 []) s)) ∧
        (q = seq → exec c s = .next (ends h.heard s))) ∧
      (∀ k, k ∈ [2, 12] → (h.heard.nack t seq k []).fw.reply = h.fw.reply ∧ (h.heard.nack t seq k []).fw.lastSeq = h.fw.lastSeq ∧
        (h.heard.nack t seq k []).rd DENOC_STATUS.last_nack = k)) ∧
    (∀ t payload, (h.ack t seq payload).fw.sent = denocFrame 0x80 seq (t :: payload)) ∧
    (h.inOrder seq = true →
      let g := h.counted seq
      exec (.denocInfo seq) s = .next (ends (g.ack 1 seq g.infoBytes) s) ∧
      (2 ≤ slot.toNat → ∀ t c, (t, c) ∈ ([(2, .denocEraseSlot seq slot), (4, .denocVerify seq slot),
        (6, .denocActivateNow seq slot)] : List (BitVec 8 × Instr)) → exec c s = .next (ends (g.nack t seq 4 []) s)) ∧
      (∀ b : Bool, slot = BitVec.ofNat 8 b.toNat →
        (b = h.inactive ∨ h.is SYS_STATUS.basecamp = true →
          let gone := (g.setSlotInfo b none false false).cancelBooking 22
          exec (.denocEraseSlot seq slot) s =
            .next (ends { gone with fw := { gone.fw with job := .eraseSlot b seq, lastErased := b } } s)) ∧
        (b ≠ h.inactive → h.is SYS_STATUS.basecamp = false →
          exec (.denocEraseSlot seq slot) s = .next (ends (g.nack 2 seq 5 []) s)) ∧
        (∀ k, h.written b = some k → k ≠ 0 → k = (headerOf (g.slotHeader b)).length + 128 →
          exec (.denocVerify seq slot) s = .next (ends { g with fw := { g.fw with job := .verify b seq } } s)) ∧
        (h.written b = none → exec (.denocVerify seq slot) s = .next (ends (g.nack 4 seq 5 []) s)) ∧
        (h.is SYS_STATUS.basecamp = false → b = h.inactive → g.mayBook = true → exec (.denocActivateNow seq slot) s =
          .next (ends ((g.ack 6 seq []).book 22 h.nextTick.1 h.nextTick.2 false) s))) ∧
      (bytes.length < 8 ∨ 1016 < bytes.length ∨ bytes.length % 8 ≠ 0 →
        exec (.denocWrite seq off bytes) s = .next (ends (g.nack 3 seq 4 []) s)) ∧
      (∀ k, 8 ≤ bytes.length → bytes.length ≤ 1016 → bytes.length % 8 = 0 → h.written h.writeSlot = some k → k ≠ 0 →
        off.toNat = k → k + bytes.length ≤ (headerOf (g.slotHeader h.writeSlot)).length + 128 →
        exec (.denocWrite seq off bytes) s = .next (ends (g.writeImage 3 seq h.writeSlot k bytes) s)) ∧
      (8 ≤ bytes.length → bytes.length ≤ 1016 → bytes.length % 8 = 0 → h.written h.writeSlot = some 0 → off = 0 →
        exec (.denocWrite seq off bytes) s = .next (ends (g.firstWrite 3 seq h.writeSlot bytes) s)) ∧
      (flags = 0 → g.mayBook = true → h.outsideWindow cycle = false → exec (.denocSchedule seq cycle angle flags) s =
        .next (ends ((g.book 22 cycle angle false).ack 5 seq []) s)) ∧
      (flags = 0 → g.mayBook = true → h.outsideWindow cycle = true →
        exec (.denocSchedule seq cycle angle flags) s = .next (ends (g.nack 5 seq 11 []) s)) ∧
      (rows = 0 ∨ 8 < rows.toNat ∨ 1023 < first.toNat →
        exec (.denocReadLog seq first rows) s = .next (ends (g.nack 7 seq 4 []) s)) ∧
      (1 ≤ rows.toNat → rows.toNat ≤ 8 → first.toNat ≤ 1023 →
        (∀ i, i < 16 * rows.toNat → h.cleanWord (ringRow ((first.toNat + i / 16) % 1024) + 8 * (i % 16)) = true) →
        exec (.denocReadLog seq first rows) s =
          .next (ends (g.ack 7 seq (g.ringBytes first.toNat rows.toNat)) s)) ∧
      (key ≠ 0x5ECA → exec (.denocEnterBasecamp seq key) s = .next (ends (g.nack 8 seq 4 []) s)) ∧
      (key = 0x5ECA → h.is SYS_STATUS.basecamp = false → exec (.denocEnterBasecamp seq key) s =
        .next (ends (((g.each g.presentPorts Hub.safeState).enterCamp 22 4).ack 8 seq []) s)) ∧
      (knownType type_ = false → exec (.denocUnknownType seq type_) s = .next (ends (g.nack type_ seq 3 []) s) ∧
        (g.nack type_ seq 3 []).rd DENOC_STATUS.last_nack = 3)) ∧
    (1152 ≤ baud.toNat → baud.toNat ≤ 30000 →
      let on := (h.wake.wr DENOC_STATUS.session 1).wr DENOC_STATUS.baud baud.toNat
      let open_ : Hub := (({ on with fw := { on.fw with lastSeq := none } } : Hub).heard).reply .echo
      exec (.denocSessionOpen baud) s = .next (ends (open_.event 22 { ev := .denocSession, data := baud.toNat }) s) ∧
      open_.fw.sent = [0x55] ∧ open_.session = true) ∧
    (h.session = true → h.fw.heardClk + 3000000000 ≤ h.sun.clk →
      exec .denocSessionTimeout s = .next (ends ((h.wr DENOC_STATUS.session 0).wr DENOC_STATUS.baud 0) s)) ∧
    (h.session = false ∨ h.sun.clk < h.fw.heardClk + 3000000000 → exec .denocSessionTimeout s = .next (ends h s)) ∧
    (h.session = true →
      let bad := (h.bump DENOC_CNT.frame_err).latchMonitor 39
      exec (.denocFrameError none) s = .next (ends bad s) ∧ bad.latched 39 = true ∧
      exec (.denocFrameError (some (type_, seq))) s = .next (ends (bad.nack type_ seq 1 []) s))

/-- Firmware jobs and the warm restart (R556, R562, R567–R572, R577): an erase of a slot and a verify end with their reply,
flash operations with their result; slot 4 fires into the restart unless R567 holds it back, and a booking that never came
off is skipped; a restart that does not reach READY in time goes back to the old slot and, from there, to Base Camp. -/
def Obligations.FirmwareJobs : Prop :=
  ∀ (b ok : Bool) (seq : BitVec 8) (s : State), s.hub.up = true →
    let h := s.hub
    (h.fw.job = .eraseSlot b seq →
      let out := ({ h with fw := { h.fw with job := .none } } : Hub).eraseFlash (slotBase b) (slotBase b + slotSize)
      let done := (out.setSlotInfo b (some 0) false false).event 22 { ev := .slotErased, data := b.toNat }
      exec .slotErased s = .next (ends (done.ack 2 seq []) s)) ∧
    (h.fw.job = .verify b seq →
      let idle : Hub := { h with fw := { h.fw with job := .none } }
      let stop := slotBase b + (headerOf (idle.slotHeader b)).length + 128
      let g := idle.readErrors (slotBase b) stop
      exec .imageVerified s = .next (ends (if g.uncorrectable (slotBase b) stop then g.verifyFailed b seq 10
        else if !g.crcGood b then g.verifyFailed b seq 8
        else if !g.signatureGood b then (g.latchMonitor 58).verifyFailed b seq 9
        else ((g.setSlotInfo b (g.written b) true false).event 22 { ev := .imageVerified, data := b.toNat }).ack 4 seq [])
          s)) ∧
    (h.is FLASH_CMD.flash_busy = true →
      let idle : Hub → Hub := fun g => { g with fw := { g.fw with flashJob := .none } }
      exec (.flashOpDone false) s = .next (ends (((idle h).wr FLASH_CMD.flash_busy 0).wr FLASH_CMD.flash_result 3) s) ∧
      (∀ a lo hi, h.fw.flashJob = .program a lo hi →
        let put := ((h.programFlash a.toNat (leBytes 4 lo.toNat ++ leBytes 4 hi.toNat)).wordWritten a.toNat).showVersions
        exec (.flashOpDone true) s = .next (ends (((idle put).wr FLASH_CMD.flash_busy 0).wr FLASH_CMD.flash_result 1) s)) ∧
      (∀ a, h.fw.flashJob = .erase a →
        let bare := (h.eraseFlash a.toNat (a.toNat + 0x4000)).showVersions
        exec (.flashOpDone true) s = .next (ends (((idle bare).wr FLASH_CMD.flash_busy 0).wr FLASH_CMD.flash_result 1) s))) ∧
    (h.is FLASH_CMD.flash_busy = false → exec (.flashOpDone ok) s = .next (ends h s)) ∧
    (h.rd FW_STATUS.phase = 1 → h.slotDue 4 = true →
      let due := ((h.wake.event 18 { ev := .slotFired, data := 4 }).clearSlot 4).wr FW_STATUS.phase 2
      exec .warmRestart s = .next (ends (if due.restartBlocked then
          { due with fw := { due.fw with firedClk := due.sun.clk } }
        else (due.wr FW_STATUS.rack 0).restart h.inactive 3) s)) ∧
    (h.rd FW_STATUS.phase = 2 →
      (h.restartBlocked = false → exec .warmRestart s =
        .next (ends (((h.stamp 24).wr FW_STATUS.rack 0).restart h.inactive 3) s)) ∧
      (h.restartBlocked = true → h.fw.firedClk + 600000000 ≤ h.sun.clk → exec .activationSkipped s =
        .next (ends ((h.unbook.wr FW_ACT_CTRL.act_status 0).event 24 { ev := .activationSkipped }) s))) ∧
    (h.sun.clk < h.fw.stampClk + 600000000 → exec .warmRestartTimeout s = .next (ends h s)) ∧
    (h.rd FW_STATUS.phase = 3 → h.fw.stampClk + 600000000 ≤ h.sun.clk →
      let missing := h.part.portMask - h.rd FW_STATUS.adopted
      let g := ((h.latchMonitor 22).event 24 { ev := .reverted, data := missing }).stamp 24
      exec .warmRestartTimeout s = .next (ends (g.restart h.oldSlot 4) s)) ∧
    (h.rd FW_STATUS.phase = 4 → h.fw.stampClk + 600000000 ≤ h.sun.clk → exec .warmRestartTimeout s = .next (ends (h.enterCamp 24 3) s))

/-! ### Accesses of masters (chapters 10 and 17) -/

/-- Where a write leads (R3, R15, R581–R587), and each completes with this as its own effect: a legal write of a named
register acts, and a SCRATCH register then holds the value written, every other register as it was; one that the register's
rights, its codes or the state do not allow is rejected, its address, index and master recorded, counted, with source 28; an
unnamed offset takes none; an access to an absent unit latches source 27 and changes neither memory nor ledger; no address of
the master's view, or a store where the master may not, is a bus error and latches source 27 just so; memory is stored where
the master may. A master that makes no accesses changes nothing. -/
def Obligations.WritesJudged : Prop :=
  ∀ (m : Master) (a v : Word) (width : Width) (write : Bool) (s : State),
    let h := s.hub
    let c := Instr.registerWrite m a v
    (h.issues m = false → exec c s = .next s) ∧
    (h.issues m = true →
      (∀ n : Fin 4, notPe m = true → a = BitVec.ofNat 32 (0x40000310 + 4 * n.val) →
        exec c s = .next (ends (h.setWord (0xC4 + n.val) v) s) ∧
        (h.setWord (0xC4 + n.val) v).rd (SCRATCH.data n.val) = v.toNat ∧
        ∀ k, k ≠ 0xC4 + n.val → (h.setWord (0xC4 + n.val) v).word k = h.word k) ∧
      (∀ k r, h.locateWide m a 4 = .hub k → findRow hubRows k = some r →
        exec c s = .next (ends (if mayWrite m k && !(match chanOf k with | some n => h.holdsChan n | none => false) &&
          h.rowLegal r k v && h.hubLegal m k v then h.actHub m k r a v else h.reject m (.hub k) a) s)) ∧
      (∀ p w r, h.locateWide m a 4 = .port p w → findRow portPortRows w = some r →
        exec c s = .next (ends (if r.legalValue v && h.portLegal p w v then h.actPort m p w r v
          else h.reject m (.port p w) a) s)) ∧
      (∀ p w r, h.locateWide m a 4 = .claim p w → findRow claimClaimRows w = some r →
        exec c s = .next (ends (if r.legalValue v && h.claimLegal p w v then h.actClaim p w r v
          else h.reject m (.claim p w) a) s)) ∧
      (∀ w r, h.locateWide m a 4 = .own w → findRow masterRows w = some r →
        exec c s = .next (ends (if r.legalValue v then h.actOwn m w r a v else h.reject m (.own w) a) s)) ∧
      (∀ n : Fin 16, h.locateWide m a 4 = .priv n.val →
        exec c s = .next (setEngine (if m = .supB then 17 else 16) (Engine.writeCtl n v) s)) ∧
      (h.locateWide m a 4 = .blank → exec c s = .next (ends h s)) ∧
      (∀ b, h.locateWide m a 4 = .memory b → h.mayStore b = true → exec c s =
        .next (ends ((h.eccStore b (masterId m)).setBytes b (leBytes 4 v.toNat)) s)) ∧
      (h.locateWide m a 4 = .absent →
        exec c s = .next (ends (h.badAccess m 1 a) s) ∧
        exec (.absentUnitAccess m a write v) s = .next (ends (h.badAccess m write.toNat a) s)) ∧
      (h.locateWide m a (widthBytes width) = .busError →
        exec (.busErrorAccess m a width write v) s = .next (ends (h.badAccess m write.toNat a) s)) ∧
      (∀ b, h.locateWide m a (widthBytes width) = .memory b → write = true → h.mayStore b = false →
        exec (.busErrorAccess m a width write v) s = .next (ends (h.badAccess m 1 a) s))) ∧
    (∀ kind, kind < 2 →
      let g := h.badAccess m kind a
      g.latched 27 = true ∧ g.pairBit 0x3002 27 = true ∧ g.mem = h.mem ∧ g.ledger = h.ledger) ∧
    (∀ k, k < 0x10000 →
      let g := h.reject m (.hub k) a
      g.word 0xC0 = a ∧ g.rd REJECT_INFO.index = k ∧ g.rd REJECT_INFO.master = masterId m ∧ g.latched 28 = true ∧
        g.mem = h.mem ∧ g.ledger = h.ledger ∧ g.ports = h.ports)

/-- A port engine sees boot ROM by its fetches only, its own message memory, its port's registers, its selects and its
claim interface, and no address besides (R46, R377, R378); every other master sees no claim interface, and core-private
space only where it is a supervisor (R399). -/
def Obligations.MastersViews : Prop :=
  ∀ (p : Fin 16) (m : Master) (a : Word) (h : Hub), h.present p = true →
    (0x10000000 ≤ a.toNat → a.toNat < 0x10004000 →
      h.locate (.pe p) a = .memory (0x21004000 + 0x8000 * p.val + (a.toNat - 0x10000000))) ∧
    (∀ w, h.locate (.pe p) a = .port p w → 0x41000000 ≤ a.toNat ∧ a.toNat < 0x41001000 ∧ w = (a.toNat - 0x41000000) / 4) ∧
    (∀ q w, h.locate (.pe p) a = .port q w ∨ h.locate (.pe p) a = .claim q w → q = p) ∧
    (∀ k, h.locate (.pe p) a ≠ .hub k ∧ h.locate (.pe p) a ≠ .priv k) ∧
    (∀ b, h.locate (.pe p) a = .memory b → 0x21004000 + 0x8000 * p.val ≤ b ∧ b < 0x21008000 + 0x8000 * p.val) ∧
    (notPe m = true → (∀ q w, h.locate m a ≠ .claim q w) ∧
      ∀ k, h.locate m a = .priv k → m = .supA ∨ m = .supB)

/-- Reads with an effect (R88, R286, R477): SUN_CYCLE keeps the angle for SUN_SNAP of the reader, STAGE_TELEM1 keeps
STAGE_TELEM2, and LOG_POP takes the oldest entry of the ring into the reader's LOG_ENTRY words. Legal writes of a
register that each master has for itself (R42, R77, R82, R85, R86): the selects show another port or quad, a slot
request takes the lowest free slot of 5 to 31 within the window, and a cancel frees a slot that has not fired. -/
def Obligations.ReadsAndOwnWrites : Prop :=
  (∀ (m : Master) (s : State), s.hub.issues m = true → notPe m = true →
     let h := s.hub
     let p := h.portSel m
     (exec (.sunCycleRead m) s = .next (ends (h.mwr m SUN_SNAP.angle h.sun.angle.toNat) s) ∧
       (h.mwr m SUN_SNAP.angle h.sun.angle.toNat).mrd m SUN_SNAP.angle = h.sun.angle.toNat) ∧
     (h.present p = true → exec (.stageTelem1Read m) s =
       .next (ends (h.setWord (telemKey m p) (h.word (portKey p 0x31))) s)) ∧
     (exec (.logPop m) s = .next (ends (h.popLog m) s) ∧
       (∀ e rest, h.logRing = e :: rest → (h.popLog m).logRing = rest ∧ (h.popLog m).mrd m LOG_POP.valid = 1 ∧
         (h.popLog m).mrd m (LOG_ENTRY.word 0) = e.w0.toNat ∧ (h.popLog m).mrd m (LOG_ENTRY.word 3) = e.w3.toNat) ∧
       (h.logRing = [] → (h.popLog m).mrd m LOG_POP.valid = 0))) ∧
  (∀ (m : Master) (v : Word) (s : State), notPe m = true →
     let h := s.hub
     let n : Fin 32 := ⟨v.toNat % 32, Nat.mod_lt _ (by decide)⟩
     (h.takesOwn m 0xF000 v = true → let g := h.storedOwn m 0xF000 v
       exec (.portSelWrite m v) s = .next (ends g s) ∧ (g.portSel m).val = v.toNat % 16 ∧
       ∀ k, k ≠ masterKey m 0xF000 → g.word k = h.word k) ∧
     (h.takesOwn m 0xF001 v = true → let g := h.storedOwn m 0xF001 v
       exec (.quadSelWrite m v) s = .next (ends g s) ∧ (g.quadSel m).val = v.toNat % 4 ∧
       ∀ k, k ≠ masterKey m 0xF001 → g.word k = h.word k) ∧
     (h.takesOwn m 0x1011 v = true →
       let g := h.slotRequest m (BitVec.ofNat 16 v.toNat) (v.getLsbD 16) ⟨masterId m, 1, regAddr 0x1011⟩
       let cycle : Word := BitVec.ofNat 32 (h.mrd m SLOT_REQ_CYCLE.cycle)
       exec (.slotReq m v) s = .next (ends g s) ∧
         (0x80000000 ≤ (cycle - h.sun.cycle).toNat → g.mrd m SLOT_RESULT.status = 3) ∧
         (∀ f, (cycle - h.sun.cycle).toNat < 0x80000000 → h.freeSlot = some f →
           g.mrd m SLOT_RESULT.status = 1 ∧ g.mrd m SLOT_RESULT.slot = f.val ∧ g.slotBusy f.val = true ∧
           g.rd (SLOT_TGT_CYCLE.cycle f.val) = cycle.toNat ∧ g.rd (SLOT_TGT_ANGLE.angle f.val) = v.toNat % 0x10000 ∧
           g.sun.slotOwner[f] = some m)) ∧
     (h.takesWrite m 0x1012 v = true →
       (h.slotBusy n.val = false → exec (.slotCancel m v) s = .next (ends (h.slotResult m 6 n.val) s)) ∧
       (h.slotBusy n.val = true → h.slotAhead n.val = true →
         exec (.slotCancel m v) s = .next (ends ((h.clearSlot n.val).slotResult m 4 n.val) s) ∧
         ((h.clearSlot n.val).slotResult m 4 n.val).slotBusy n.val = false) ∧
       (h.slotBusy n.val = true → h.slotAhead n.val = false →
         exec (.slotCancel m v) s = .next (ends ((h.fireSlot n).slotResult m 5 n.val) s))))

/-- Legal writes that act on the hub as a whole: each row's write, with the bits that name the row, has the effect that its
rule gives: derates (R185), veto and AUX entries (R202, R225, R227), Bivouac mode (R252, R254, R269), Watch and Ship mode
(R369, R371), supervisors and port engines (R383, R384, R388, R395, R396), zeroing (R404), sources, severities and entries
(R457, R462–R464, R478), the Check Unit (R486, R487, R495), Convoy (R531, R550, R551), activation, fuses and flash (R563,
R565, R571, R577), erases of the card (R366). -/
def Obligations.HubWrites : Prop :=
  ∀ (m : Master) (v : Word) (q : Fin 4) (n : Fin 2) (hi : Bool) (k : Fin 4) (s : State),
    let h := s.hub
    let r := masterRequester m
    let at_ : Word → Word → Word := fun set clear => forced set clear v
    let ctrl : Nat → Word → Hub := fun key w => h.stored key w
    let halt := h.word 0x9000 &&& (v ||| 0xFFFFFFFC)
    let run := fun (w : Word) (g : Hub) =>
      ((g.wr ENG_CTRL.flask_restart (w.getLsbD 8).toNat).writeRun false (w.getLsbD 0)).writeRun true (w.getLsbD 1)
    let biv := fun (w : Word) => h.storeBits 0x80 0x3 w
    let bivForce := fun (w : Word) => if w.getLsbD 2 then (biv w).vhubTrigger r else biv w
    let bivAct := fun (w : Word) =>
      if w.getLsbD 3 && (bivForce w).islanded then (bivForce w).startReturn r else bivForce w
    (∀ c key w g, (c, key, w, g) ∈ ([
        (.hubDerateWrite m v, 0x2003, v, ((h.stamp r).stored 0x2003 v).limitChanged 20 (h.nodeLimit 20)),
        (.quadDerateWrite m q v, 0x200C + q.val, v,
          ((h.stamp r).stored (0x200C + q.val) v).limitChanged (16 + q.val) (h.nodeLimit (16 + q.val))),
        (.hamperVeto m v, 0x2018, at_ 0x10 0, (h.stamp r).veto ⟨v.toNat % 16, Nat.mod_lt _ (by decide)⟩),
        (.auxClaim m v, 0x2019, at_ 0 0x80000000, h.auxClaim m (v.toNat % 0x10000) ⟨masterId m, 3, regAddr 0x2019⟩),
        (.auxRelease m v, 0x2019, at_ 0x80000000 0,
          h.auxRelease m ⟨v.toNat / 0x10000 % 64, Nat.mod_lt _ (by decide)⟩),
        (.bivouacDisable m v, 0x80, at_ 0 0x1, bivAct (at_ 0 0x1)),
        (.watchGo m v, 0x3, at_ 0x1 0x2, (h.storeBits 0x3 0x10 v).enterWatch),
        (.shipGo m v, 0x3, at_ 0xA502 0xFF01, (h.storeBits 0x3 0x10 v).shipGo r),
        (.wdtKick m v, 0x9003, at_ 0x5A 0xFF,
          if m = .supA then h.kickSup false else if m = .supB then h.kickSup true else h),
        (.peRunClear m v, 0x9008, h.word 0x9008 &&& v, h.writePeRun ((h.word 0x9008 &&& v).toNat % 0x10000)),
        (.peRunSet m v, 0x9008, h.word 0x9008 ||| v, h.writePeRun ((h.word 0x9008 ||| v).toNat % 0x10000)),
        (.memZero m v, 0x9016, v, h.zeroWord (word64 v.toNat)),
        (.faultStatusClear m hi v, 0x3000 + hi.toNat, v, h.clearStatus hi v),
        (.faultNewClear m hi v, 0x3002 + hi.toNat, v,
          h.setWord (0x3002 + hi.toNat) (h.word (0x3002 + hi.toNat) &&& ~~~v)),
        (.faultForce m hi v, 0x3004 + hi.toNat, v, h.forceSources m hi v),
        (.faultSevWrite m k v, 0x3008 + k.val, v, h.setWord (0x3008 + k.val) (v &&& maskWord (h.part.sevMask k.val))),
        (.logWrite m v, 0xA00C, v,
          h.event r { ev := .firmware (v.toNat / 0x10000 % 32), data := v.toNat % 0x10000 }),
        (.cardErase m v, 0xB, at_ 0x1 0, h.eraseCard (v.getLsbD 1)),
        (.convoyFwSend m v, 0x6028, at_ 0x80000000 0, (ctrl 0x6028 (at_ 0x80000000 0)).sendFirmware),
        (.convoyRxRelease m v, 0x6038, at_ 0x80000000 0, h.releaseRx),
        (.fwActGo m v, 0x8004, at_ 0x80000000 0x40000000, (ctrl 0x8004 (at_ 0x80000000 0x40000000)).actGo r),
        (.fwActCancel m v, 0x8004, at_ 0x40000000 0x80000000, (ctrl 0x8004 (at_ 0x40000000 0x80000000)).actCancel r),
        (.flashProgram m v, 0x800B, at_ 0x1 0x3, h.flashOp false),
        (.flashErase m v, 0x800B, at_ 0x2 0x3, h.flashOp true)] : List (Instr × Nat × Word × Hub)) →
      h.takesWrite m key w = true → exec c s = .next (ends g s)) ∧
    (h.takesWrite m 0x80 (at_ 0x4 0) = true → v.getLsbD 3 = false →
      exec (.bivouacForce m v) s = .next (ends ((biv (at_ 0x4 0)).vhubTrigger r) s)) ∧
    (h.takesWrite m 0x80 (at_ 0x8 0) = true → v.getLsbD 2 = false → exec (.bivouacExit m v) s =
      .next (ends (if h.islanded then (biv (at_ 0x8 0)).startReturn r else biv (at_ 0x8 0)) s)) ∧
    (h.takesWrite m 0x9000 halt = true → halt.getLsbD 4 = false → halt.getLsbD 5 = false →
      exec (.supervisorHalt m v) s = .next (ends (run halt h) s) ∧
      (v.getLsbD 0 = false → h.rd ENG_STATUS.state_a = 1 → (run halt h).rd ENG_STATUS.state_a = 2)) ∧
    (h.takesWrite m 0x9000 (at_ 0x10 0) = true → v.getLsbD 5 = false →
      exec (.restartA m v) s = .next (ends ((run (at_ 0x10 0) h).restartSup false) s)) ∧
    (h.takesWrite m 0x9000 (at_ 0x20 0) = true → v.getLsbD 4 = false →
      exec (.restartB m v) s = .next (ends ((run (at_ 0x20 0) h).restartSup true) s)) ∧
    (h.takesWrite m 0x9000 (at_ 0x2 0) = true → v.getLsbD 4 = false → v.getLsbD 5 = false →
      exec (.supervisorBRelease m v) s = .next (ends (run (at_ 0x2 0) h) s) ∧
      (v.getLsbD 0 = true → h.rd ENG_STATUS.state_b = 0 → (run (at_ 0x2 0) h).rd ENG_STATUS.state_b = 1)) ∧
    (h.takesWrite m 0x6000 (at_ 0 0x100) = true → h.is CONV_LINK.link_en = true →
      exec (.convoyLinkDisable m v) s = .next (ends ((h.storeBits 0x6000 0x10F (at_ 0 0x100)).linkDown r) s)) ∧
    (h.takesWrite m 0x8005 (at_ 0x1 0) = true → m = .supA → v.getLsbD 1 = false →
      exec (.fwReadyOk m v) s = .next (ends h.takeReadyOk s)) ∧
    (h.takesWrite m 0x8005 (at_ 0x2 0) = true → v.getLsbD 0 = false →
      exec (.fwCommit m v) s = .next (ends (h.commitFuses r) s)) ∧
    (let key := chanKey n 0
     let go := fun (w : Word) => ends (((h.stored key w)).goCheck n) s
     (h.takesWrite m key (at_ 0x2 0x80) = true → v.getLsbD 2 = false →
       exec (.checkGoScan m n v) s = .next (go (at_ 0x2 0x80))) ∧
     (h.takesWrite m key (at_ 0x82 0) = true → v.getLsbD 2 = false →
       exec (.checkGoFeed m n v) s = .next (go (at_ 0x82 0))) ∧
     (h.takesWrite m key (at_ 0x4 0) = true → v.getLsbD 1 = false → h.scanning n = false →
       exec (.checkEnd m n v) s = .next (ends ((h.stored key (at_ 0x4 0)).endPass n true) s)) ∧
     (h.takesWrite m key (at_ 0 0x3) = true → v.getLsbD 2 = false → h.scanning n = true →
       exec (.checkDrain m n v) s = .next (ends ((h.stored key (at_ 0 0x3)).drainScan n) s)) ∧
     (h.is (CHK_CTRL.mode n) = true → h.is (CHK_CTRL.enable n) = true →
       (h.takesWrite m (chanKey n 0xD) v = true →
         exec (.checkFeed m n v) s = .next (ends (h.feedCheck n (leBytes 4 v.toNat)) s)) ∧
       (h.takesWrite m (chanKey n 0xE) v = true →
         exec (.checkFeedB m n v) s = .next (ends (h.feedCheck n (leBytes 1 v.toNat)) s))))

/-- Legal writes of a port's registers, through the writer's PORT window (R42, R45): the enable (R124, R125), recovery
(R121), swaps of the hub's own (R230), the stage's set-points, mode, arming, discharge test and coefficients (R281, R290,
R292, R293, R309, R311, R313, R315), the pass switch and its probe (R320, R336, R339), and PORT_FAULT (R630). -/
def Obligations.PortWrites : Prop :=
  ∀ (m : Master) (v : Word) (n : Fin 3) (s : State),
    let h := s.hub
    let p := h.portSel m
    let r := masterRequester m
    let at_ : Word → Word → Word := fun set clear => forced set clear v
    let ctrl := fun (w : Word) => h.storeBits (portKey p 0x0) 0x7D w
    let recover := fun (w : Word) => if w.getLsbD 7 then ((ctrl w).stamp r).safeNow p else ctrl w
    let swap := fun (w : Word) => h.storeBits (portKey p 0x24) 0xFFC0 w
    let armed := fun (g : Hub) => if v.getLsbD 13 then g.armFrs p
      else if g.pis p SWAP_STATUS.frs_armed then (g.stamp r).disarmFrs p else g
    let stage := fun (w : Word) => ((h.storeBits (portKey p 0x29) 0xD30 w).retune p).writeDisTest p (w.getLsbD 9)
    let pass := fun (w : Word) => h.storeBits (portKey p 0x38) 0x42 w
    let probed := fun (g : Hub) => if v.getLsbD 7 then g.leakGo p else g
    ∀ c key w g, (c, key, w, g) ∈ ([
        (.portEnableClear m v, 0x0, at_ 0 0x1, if h.pis p PORT_CTRL.enable then (recover (at_ 0 0x1)).startDrain r p
          else recover (at_ 0 0x1)),
        (.portEnableSet m v, 0x0, at_ 0x1 0, if h.pis p PORT_CTRL.enable then recover (at_ 0x1 0)
          else (recover (at_ 0x1 0)).tryLeaveRest p),
        (.portRecover m v, 0x0, at_ 0x80 0, let g := ((ctrl (at_ 0x80 0)).stamp r).safeNow p
            if h.pis p PORT_CTRL.enable && !v.getLsbD 0 then g.startDrain r p
            else if !h.pis p PORT_CTRL.enable && v.getLsbD 0 then g.tryLeaveRest p else g),
        (.swapGoPr m v, 0x24, at_ 0x1 0xF, (armed (swap (at_ 0x1 0xF))).swapGo p .pr),
        (.swapGoDr m v, 0x24, at_ 0x2 0xF, (armed (swap (at_ 0x2 0xF))).swapGo p .dr),
        (.swapGoVconn m v, 0x24, at_ 0x3 0xF, (armed (swap (at_ 0x3 0xF))).swapGo p .vconn),
        (.stageCfgWrite m v, 0x28, v, (h.storeBits (portKey p 0x28) 0xFFFC00 v).writeFsw p (v.toNat % 0x400)),
        (.stageVsetWrite m v, 0x2A, v, h.writeVset p (v.toNat % 0x10000)),
        (.stageIlimWrite m v, 0x2B, v, h.writeIlim p (v.toNat % 0x10000)),
        (.stageModeOff m v, 0x29, at_ 0 0x3, ((stage (at_ 0 0x3)).writeMode p 0).writeFrsArm p (v.getLsbD 3)),
        (.stageModeForward m v, 0x29, at_ 0x1 0x3, ((stage (at_ 0x1 0x3)).writeMode p 1).writeFrsArm p (v.getLsbD 3)),
        (.stageModeReverse m v, 0x29, at_ 0x2 0x3, ((stage (at_ 0x2 0x3)).writeMode p 2).writeFrsArm p (v.getLsbD 3)),
        (.stageFrsArm m v, 0x29, at_ 0x8 0, ((stage (at_ 0x8 0)).writeMode p (v.toNat % 4)).writeFrsArm p true),
        (.dischargeTest m v, 0x29, at_ 0x200 0,
          ((((h.storeBits (portKey p 0x29) 0xD30 (at_ 0x200 0)).retune p).writeDisTest p true).writeMode p
            (v.toNat % 4)).writeFrsArm p (v.getLsbD 3)),
        (.coefIWrite m n v, 0x33 + 2 * n.val, v, h.writeCoef p n true v),
        (.leakGo m v, 0x38, at_ 0x80 0, ((pass (at_ 0x80 0)).writePassEn r p (v.getLsbD 0)).leakGo p),
        (.passEnClear m v, 0x38, at_ 0 0x1, probed ((pass (at_ 0 0x1)).writePassEn r p false)),
        (.passEnSet m v, 0x38, at_ 0x1 0, probed ((pass (at_ 0x1 0)).writePassEn r p true)),
        (.portFaultClear m v, 0x40, v, h.clearPortFault p v)] : List (Instr × Nat × Word × Hub)) →
      h.takesPort m key w = true → exec c s = .next (ends g s)

/-- Legal writes of a port engine's claim interface (R109, R111, R135, R137, R162, R193, R246, R397, R571, R592, R593): each
claim is made or taken back within the command, a start is handed over, a ring slot is freed, a transmit slot is queued,
a kick keeps the engine, and an adoption frees the port of the auto-responder. -/
def Obligations.ClaimWrites : Prop :=
  ∀ (p : Fin 16) (v : Word) (s : State),
    let h := s.hub
    let at_ : Word → Word → Word := fun set clear => forced set clear v
    let slot : Fin 4 := ⟨v.toNat % 4, Nat.mod_lt _ (by decide)⟩
    let free := !h.hasStart p false
    (∀ c key w g, (c, key, w, g) ∈ ([
        (.claimStandby p v, 0x0, at_ 0x60000000 0xE0000000, h.claimStandby p (PE_CLAIM.power.bits.get (at_ 0x60000000 0xE0000000))),
        (.claimConfirm p v, 0x0, at_ 0x80000000 0xE0000000, (h.confirm p).mapPort p fun x => { x with spec := none }),
        (.claimWithdraw p v, 0x0, at_ 0xA0000000 0xE0000000, h.claimWithdraw p),
        (.claimImplicit p v, 0x0, at_ 0x20000000 0xE0000000,
          h.claimImplicit p (PE_CLAIM.power.bits.get (at_ 0x20000000 0xE0000000))
            (PE_CLAIM.raise.bits.get (at_ 0x20000000 0xE0000000) = 1)),
        (.claimRequest p v, 0x0, at_ 0x40000000 0xE0000000,
          h.claimRequest p (PE_CLAIM.power.bits.get (at_ 0x40000000 0xE0000000))
            (PE_CLAIM.raise.bits.get (at_ 0x40000000 0xE0000000) = 1)
            (PE_CLAIM.spec.bits.get (at_ 0x40000000 0xE0000000) = 1) (PE_CLAIM.pd_kind.bits.get (at_ 0x40000000 0xE0000000))),
        (.peHandoverKindA p v, 0x2, at_ 0x40000000 0xC0000000, if free then h.assignStart p .a else h),
        (.peHandoverKindB p v, 0x2, at_ 0x80000000 0xC0000000, if free then h.assignStart p .b else h),
        (.rxSlotRelease p v, 0x6, at_ 0x1 0, h.mapPort p
          fun x => { x with ringFirst := x.ringFirst + 1, ringCount := x.ringCount - 1 }),
        (.transmitSlotQueue p v, 0x7, at_ 0x8 0, (h.mapPort p
          fun x => { x with txSlots := x.txSlots ++ [slot] }).startAms p (.firmware slot)),
        (.peKick p v, 0x3F, at_ 0x5A 0xFF, h.feedPe p),
        (.peAdopt p v, 0x8, v, h.adopt p)] : List (Instr × Nat × Word × Hub)) →
      h.takesClaim p key w = true → exec c s = .next (ends g s)) ∧
    (h.takesClaim p 0x8 v = true → h.restarting = true ∧ v = h.fw.stampSeq)

/-! ### The host bus (chapter 14) -/

/-- A transaction that the host bridge acknowledges (R502–R513): what each code of R504 reads or writes, with the status
word, the block counts and the PEC of R505 to R512; a write whose PEC is bad, or missing where it is required, is discarded
with its status bit and source 38, one with a byte beyond its PEC or cut short does nothing, and PTR advances by the
registers of a DATA transfer even so (R506, R511, R513); a code that is not known is not acknowledged and sets cmd_nack.
Each completes with this as its own effect. -/
def Obligations.HostTransactions : Prop :=
  ∀ (v : Word) (b n count : BitVec 8) (i : BitVec 16) (vs : List Word) (w : WriteEnd) (x : Byte) (s : State),
    s.hub.up = true → s.hub.hostListens = true →
    let h := s.hub
    let addr : Byte := BitVec.ofNat 8 (2 * h.rd HOST_CFG.addr)
    let fails := fun (f : GField) (g : Hub) => ((g.wr f 1).bump HOST_CNT.pec_errors).latchMonitor 38
    (let g := h.begun 1
     let read : Hub := { g with whistled := none }.wr HOST_STATUS.whistle_pending 0
     let bytes := leBytes 2 g.statusWord
     exec .hostStatus s = .next (ends (read.endHost true (g.answerHost 1 [] false bytes)) s) ∧
     g.answerHost 1 [] false bytes = ⟨bytes, some (pec ([addr, 1, addr + 1] ++ bytes))⟩) ∧
    (h.hostKnows count.toNat = false →
      let g := (h.wr HOST_STATUS.cmd_nack 1).endHost true .silent
      exec (.hostCmdNack count) s = .next (ends g s) ∧ g.is HOST_STATUS.cmd_nack = true ∧ g.host = ⟨[], none⟩ ∧
        g.mem = h.mem ∧ g.ledger = h.ledger ∧ g.ports = h.ports) ∧
    (h.is SYS_STATUS.basecamp = false →
      (∀ c code block sent f, (c, code, block, sent, f) ∈ ([(.hostFaultLoRead, 2, true, [], Hub.getReg 0x3000 4),
          (.hostFaultHiRead, 3, true, [], Hub.getReg 0x3001 4),
          (.hostLogPop, 4, true, [], fun g => (match g.logRing with | [] => [] | e :: _ => e.bytes, g.popLog .host)),
          (.hostPortSelRead, 8, false, [], Hub.getReg 0xF000 1), (.hostQuadSelRead, 9, false, [], Hub.getReg 0xF001 1),
          (.hostSignpostRead, 15, true, [], fun g => if g.rd HOST_PTR.page ≤ 32 then
              (g.memBytes (0xF000 + 32 * g.rd HOST_PTR.page) 32, g.wr HOST_PTR.page (g.rd HOST_PTR.page + 1))
            else ([], g)),
          (.hostPtrRead, 16, false, [], fun g => (leBytes 2 g.ptr.toNat, g)),
          (.hostDataRead, 17, true, [], Hub.readData 1),
          (.hostData1Read, 18, false, [], fun g => (leBytes 4 (g.hostRead g.ptr).1.toNat, (g.hostRead g.ptr).2)),
          (.hostHamperQuery, 32, true, [], Hub.getPortRegs [0x20, 0x21, 0x22, 0x23])] ++
            (if 1 ≤ n.toNat ∧ n.toNat ≤ 8 then [(.hostDataProcessCall n, 17, true, [1, n], Hub.readData n.toNat)] else []) :
            List (Instr × Nat × Bool × List Byte × (Hub → List Byte × Hub))) →
        let g := h.begun code
        exec c s = .next (ends ((f g).2.endHost true (g.answerHost code sent block (f g).1)) s)) ∧
      (n.toNat = 0 ∨ 8 < n.toNat → exec (.hostDataProcessCall n) s =
        .next (ends (((h.begun 17).wr HOST_STATUS.count_err 1).endHost true .silent) s)) ∧
      (∀ c code sent f, (c, code, sent, f) ∈ ([(.hostFaultLoWrite v w, 2, 4 :: leBytes 4 v.toNat, Hub.putReg 0x3000 v),
          (.hostFaultHiWrite v w, 3, 4 :: leBytes 4 v.toNat, Hub.putReg 0x3001 v),
          (.hostPortSelWrite b w, 8, [b], Hub.putSel 0xF000 15 b), (.hostQuadSelWrite b w, 9, [b], Hub.putSel 0xF001 3 b),
          (.hostSignpostPage b w, 15, [b], Hub.wr HOST_PTR.page b.toNat),
          (.hostPtrWrite i w, 16, leBytes 2 i.toNat, Hub.wr HOST_PTR.index i.toNat),
          (.hostData1Write v w, 18, leBytes 4 v.toNat, fun g => g.hostWrite g.ptr v)] :
            List (Instr × Nat × List Byte × (Hub → Hub))) →
        let g := h.begun code
        let good := pec (addr :: BitVec.ofNat 8 code :: sent)
        (w = .pec good → exec c s = .next (ends ((f g).endHost true .silent) s)) ∧
        (w = .pec x ∨ w = .beyond x → x ≠ good →
          exec c s = .next (ends ((fails HOST_STATUS.pec_err g).endHost true .silent) s)) ∧
        (w = .beyond good → exec c s = .next (ends (g.endHost true .silent) s)) ∧
        (w = .noPec → h.is HOST_CFG.pec_required = true →
          exec c s = .next (ends ((fails HOST_STATUS.pec_missing g).endHost true .silent) s)) ∧
        (w = .noPec → h.is HOST_CFG.pec_required = false → exec c s = .next (ends ((f g).endHost true .silent) s)) ∧
        (w = .cut → exec c s = .next (ends (g.endHost false .silent) s))) ∧
      (let g := h.begun 17
       let good := pec (addr :: 17 :: count :: wordsBytes vs)
       (count.toNat % 4 ≠ 0 ∨ count.toNat = 0 ∨ 32 < count.toNat → w ≠ .cut → exec (.hostDataWrite count vs w) s =
         .next (ends ((g.wr HOST_STATUS.count_err 1).endHost true .silent) s)) ∧
       (count.toNat = 4 * vs.length → vs ≠ [] → vs.length ≤ 8 →
         (w = .pec good → exec (.hostDataWrite count vs w) s =
           .next (ends (((Hub.hostWrites g.ptr vs g).advancePtr vs.length).endHost true .silent) s)) ∧
         (w = .pec x → x ≠ good → exec (.hostDataWrite count vs w) s =
           .next (ends (((fails HOST_STATUS.pec_err g).advancePtr vs.length).endHost true .silent) s)) ∧
         (w = .cut → exec (.hostDataWrite count vs w) s =
           .next (ends ((g.advancePtr vs.length).endHost false .silent) s)))))

/-- The status word of the host bus shows what R505 puts at each of its bits. -/
def Obligations.StatusWordBits : Prop :=
  ∀ h : Hub,
    ∀ n b, (n, b) ∈ ([(15, h.is SYS_STATUS.ready), (14, h.is SYS_STATUS.basecamp), (13, h.faultPinLow),
      (12, allSources.any fun k => h.pairBit 0x3002 k && decide (1 ≤ h.severity k)), (11, !h.logRing.isEmpty),
      (10, h.is ENG_STATUS.flask), (9, h.rd BIVOUAC_STATUS.phase != 0), (8, h.is SYS_STATUS.card_default),
      (7, h.is SUN_STATUS.mains_lost), (6, h.rd CONV_RACK.role == 3),
      (5, h.rd CONV_RACK.role == 2 || h.rd CONV_RACK.role == 3 || h.rd CONV_RACK.role == 5),
      (4, h.is HOST_STATUS.whistle_pending), (3, h.restarting)] : List (Nat × Bool)) →
    h.statusWord.testBit n = b ∧ h.statusWord % 8 = 0
end

