-- ==== Sys2Proof/Laws/Sparse.lean ====
section
/-! SUPPORT. Laws of the sparse maps: what a write leaves at each key, and that every operation keeps the canonical
form. Memory and the register file rest on them. -/

namespace Sys2Proof.Machine

variable {α : Type} {d : Nat → α}

/-! ### Read after write -/

/-- What a put leaves at each key. -/
theorem sparseGet_put (l : List (Nat × α)) (k j : Nat) (v : α) :
    sparseGet d (sparsePut l k v) j = if j = k then v else sparseGet d l j := by
  induction l with
  | nil => rfl
  | cons e l ih =>
    obtain ⟨i, w⟩ := e
    unfold sparsePut
    by_cases hki : k = i
    · subst hki; rw [if_pos rfl]; simp only [sparseGet]; split <;> rfl
    · rw [if_neg hki]
      split
      · simp only [sparseGet]
      · simp only [sparseGet, ih]
        by_cases hj : j = i
        · subst hj; rw [if_pos rfl, if_neg (Ne.symm hki)]; simp
        · rw [if_neg hj]; simp [hj]

/-- What a drop leaves at each key. -/
theorem sparseGet_drop (l : List (Nat × α)) (k j : Nat) :
    sparseGet d (sparseDrop l k) j = if j = k then d k else sparseGet d l j := by
  induction l with
  | nil => simp only [sparseDrop, List.filter_nil, sparseGet]; split <;> simp_all
  | cons e l ih =>
    obtain ⟨i, w⟩ := e
    unfold sparseDrop at ih ⊢
    by_cases hki : i = k
    · subst hki
      rw [List.filter_cons_of_neg (by simp), ih]
      simp only [sparseGet]
      split <;> rfl
    · rw [List.filter_cons_of_pos (by simpa using hki)]
      simp only [sparseGet, ih]
      by_cases hj : j = i
      · subst hj; rw [if_pos rfl, if_neg hki]; simp
      · simp [hj]

variable [DecidableEq α]

/-- Read after write: the key written reads as the value, every other key as before. -/
theorem sparseGet_set (l : List (Nat × α)) (k j : Nat) (v : α) :
    sparseGet d (sparseSet d l k v) j = if j = k then v else sparseGet d l j := by
  unfold sparseSet
  split
  · rename_i hv; subst hv; exact sparseGet_drop l k j
  · exact sparseGet_put l k j v

/-! ### The canonical form -/

/-- A lower bound on the keys may be lowered. -/
theorem sparseAbove_weaken {l : List (Nat × α)} {i j : Nat} (h : sparseAbove d (some j) l = true) (hij : i ≤ j) :
    sparseAbove d (some i) l = true := by
  cases l with
  | nil => rfl
  | cons e l =>
    simp only [sparseAbove, Bool.and_eq_true, decide_eq_true_eq] at h ⊢
    exact ⟨⟨Nat.lt_of_le_of_lt hij h.1.1, h.1.2⟩, h.2⟩

/-- A bounded list is canonical. -/
theorem sparseAbove_none {l : List (Nat × α)} {j : Nat} (h : sparseAbove d (some j) l = true) :
    sparseAbove d none l = true := by
  cases l with
  | nil => rfl
  | cons e l =>
    simp only [sparseAbove, Bool.and_eq_true, decide_eq_true_eq] at h ⊢
    exact ⟨⟨trivial, h.1.2⟩, h.2⟩

/-- Writing a value that differs from the default keeps the form above a bound below the key. -/
theorem sparsePut_above {b : Option Nat} {l : List (Nat × α)} {k : Nat} {v : α} (h : sparseAbove d b l = true)
    (hv : v ≠ d k) (hb : ∀ i, b = some i → i < k) : sparseAbove d b (sparsePut l k v) = true := by
  induction l generalizing b with
  | nil => cases b <;> simp_all [sparsePut, sparseAbove]
  | cons e l ih =>
    obtain ⟨j, w⟩ := e
    simp only [sparseAbove, Bool.and_eq_true, decide_eq_true_eq] at h
    obtain ⟨⟨hj, hw⟩, hl⟩ := h
    unfold sparsePut
    by_cases hkj : k = j
    · subst hkj
      rw [if_pos rfl]
      cases b <;> simp_all [sparseAbove]
    · rw [if_neg hkj]
      by_cases hlt : k < j
      · rw [if_pos hlt]
        cases b <;> simp_all [sparseAbove]
      · have := ih hl (fun i hi => by cases hi; omega)
        rw [if_neg hlt]
        cases b <;> simp_all [sparseAbove]

/-- Leaving out entries keeps the form. -/
theorem sparseAbove_filter {b : Option Nat} {l : List (Nat × α)} (f : Nat × α → Bool) (h : sparseAbove d b l = true) :
    sparseAbove d b (l.filter f) = true := by
  induction l generalizing b with
  | nil => exact h
  | cons e l ih =>
    simp only [sparseAbove, Bool.and_eq_true, decide_eq_true_eq] at h
    obtain ⟨⟨hj, hw⟩, hl⟩ := h
    by_cases hf : f e = true
    · rw [List.filter_cons_of_pos hf]
      simp only [sparseAbove, ih hl, hw, ne_eq, not_false_eq_true, decide_true, Bool.and_true]
      exact hj
    · rw [List.filter_cons_of_neg hf]
      have := ih hl
      cases b with
      | none => exact sparseAbove_none this
      | some i => exact sparseAbove_weaken this (by simp only [decide_eq_true_eq] at hj; omega)

/-- Leaving out entries keeps the canonical form. -/
theorem sparseWf_filter {l : List (Nat × α)} (f : Nat × α → Bool) (h : sparseWf d l = true) :
    sparseWf d (l.filter f) = true := sparseAbove_filter f h

/-- A write keeps the canonical form. -/
theorem sparseWf_set {l : List (Nat × α)} {k : Nat} {v : α} (h : sparseWf d l = true) :
    sparseWf d (sparseSet d l k v) = true := by
  unfold sparseSet
  split
  · exact sparseWf_filter _ h
  · exact sparsePut_above h ‹_› (by simp)

end Sys2Proof.Machine
end

