-- ==== Sys2Proof/Laws/State.lean ====
section
/-! SUPPORT. What each update of the state leaves alone: one lemma per field per update, so that no later proof unfolds a
record update. -/

namespace Sys2Proof.Machine

/-! ### setWord -/

@[simp] theorem Hub.setWord_part (k : Nat) (v : Word) (h : Hub) : (h.setWord k v).part = h.part := rfl
@[simp] theorem Hub.setWord_stepping (k : Nat) (v : Word) (h : Hub) : (h.setWord k v).stepping = h.stepping := rfl
@[simp] theorem Hub.setWord_straps (k : Nat) (v : Word) (h : Hub) : (h.setWord k v).straps = h.straps := rfl
@[simp] theorem Hub.setWord_power (k : Nat) (v : Word) (h : Hub) : (h.setWord k v).power = h.power := rfl
@[simp] theorem Hub.setWord_mem (k : Nat) (v : Word) (h : Hub) : (h.setWord k v).mem = h.mem := rfl
@[simp] theorem Hub.setWord_poison (k : Nat) (v : Word) (h : Hub) : (h.setWord k v).poison = h.poison := rfl
@[simp] theorem Hub.setWord_upsets (k : Nat) (v : Word) (h : Hub) : (h.setWord k v).upsets = h.upsets := rfl
@[simp] theorem Hub.setWord_sun (k : Nat) (v : Word) (h : Hub) : (h.setWord k v).sun = h.sun := rfl
@[simp] theorem Hub.setWord_lastGrant (k : Nat) (v : Word) (h : Hub) : (h.setWord k v).lastGrant = h.lastGrant := rfl
@[simp] theorem Hub.setWord_stamps (k : Nat) (v : Word) (h : Hub) : (h.setWord k v).stamps = h.stamps := rfl
@[simp] theorem Hub.setWord_ports (k : Nat) (v : Word) (h : Hub) : (h.setWord k v).ports = h.ports := rfl
@[simp] theorem Hub.setWord_ledger (k : Nat) (v : Word) (h : Hub) : (h.setWord k v).ledger = h.ledger := rfl
@[simp] theorem Hub.setWord_attachCount (k : Nat) (v : Word) (h : Hub) : (h.setWord k v).attachCount = h.attachCount :=
  rfl
@[simp] theorem Hub.setWord_attachedClk (k : Nat) (v : Word) (h : Hub) : (h.setWord k v).attachedClk = h.attachedClk :=
  rfl
@[simp] theorem Hub.setWord_startClk (k : Nat) (v : Word) (h : Hub) : (h.setWord k v).startClk = h.startClk := rfl
@[simp] theorem Hub.setWord_card (k : Nat) (v : Word) (h : Hub) : (h.setWord k v).card = h.card := rfl
@[simp] theorem Hub.setWord_logRing (k : Nat) (v : Word) (h : Hub) : (h.setWord k v).logRing = h.logRing := rfl
@[simp] theorem Hub.setWord_flashQueue (k : Nat) (v : Word) (h : Hub) : (h.setWord k v).flashQueue = h.flashQueue :=
  rfl
@[simp] theorem Hub.setWord_overruns (k : Nat) (v : Word) (h : Hub) : (h.setWord k v).overruns = h.overruns := rfl
@[simp] theorem Hub.setWord_hubSafe (k : Nat) (v : Word) (h : Hub) : (h.setWord k v).hubSafe = h.hubSafe := rfl
@[simp] theorem Hub.setWord_portSafe (k : Nat) (v : Word) (h : Hub) : (h.setWord k v).portSafe = h.portSafe := rfl
@[simp] theorem Hub.setWord_monitors (k : Nat) (v : Word) (h : Hub) : (h.setWord k v).monitors = h.monitors := rfl
@[simp] theorem Hub.setWord_vhubPins (k : Nat) (v : Word) (h : Hub) : (h.setWord k v).vhubPins = h.vhubPins := rfl
@[simp] theorem Hub.setWord_vconnGood (k : Nat) (v : Word) (h : Hub) : (h.setWord k v).vconnGood = h.vconnGood := rfl
@[simp] theorem Hub.setWord_chans (k : Nat) (v : Word) (h : Hub) : (h.setWord k v).chans = h.chans := rfl
@[simp] theorem Hub.setWord_host (k : Nat) (v : Word) (h : Hub) : (h.setWord k v).host = h.host := rfl
@[simp] theorem Hub.setWord_whistled (k : Nat) (v : Word) (h : Hub) : (h.setWord k v).whistled = h.whistled := rfl
@[simp] theorem Hub.setWord_rack (k : Nat) (v : Word) (h : Hub) : (h.setWord k v).rack = h.rack := rfl
@[simp] theorem Hub.setWord_fw (k : Nat) (v : Word) (h : Hub) : (h.setWord k v).fw = h.fw := rfl
@[simp] theorem Hub.setWord_returnPending (k : Nat) (v : Word) (h : Hub) : (h.setWord k v).returnPending = h.returnPending :=
  rfl
@[simp] theorem Hub.setWord_returnedClk (k : Nat) (v : Word) (h : Hub) : (h.setWord k v).returnedClk = h.returnedClk :=
  rfl
@[simp] theorem Hub.setWord_flaskClk (k : Nat) (v : Word) (h : Hub) : (h.setWord k v).flaskClk = h.flaskClk := rfl
@[simp] theorem Hub.setWord_supKick (k : Nat) (v : Word) (h : Hub) : (h.setWord k v).supKick = h.supKick := rfl
@[simp] theorem Hub.setWord_peKick (k : Nat) (v : Word) (h : Hub) : (h.setWord k v).peKick = h.peKick := rfl
@[simp] theorem Hub.setWord_takeover (k : Nat) (v : Word) (h : Hub) : (h.setWord k v).takeover = h.takeover := rfl
@[simp] theorem Hub.setWord_freeCount (k : Nat) (v : Word) (h : Hub) : (h.setWord k v).freeCount = h.freeCount := rfl
@[simp] theorem Hub.setWord_resets (k : Nat) (v : Word) (h : Hub) : (h.setWord k v).resets = h.resets := rfl
@[simp] theorem Hub.setWord_safeDue (k : Nat) (v : Word) (h : Hub) : (h.setWord k v).safeDue = h.safeDue := rfl
@[simp] theorem Hub.setWord_lostFeeds (k : Nat) (v : Word) (h : Hub) : (h.setWord k v).lostFeeds = h.lostFeeds := rfl
@[simp] theorem Hub.setWord_alertsDue (k : Nat) (v : Word) (h : Hub) : (h.setWord k v).alertsDue = h.alertsDue := rfl
@[simp] theorem Hub.setWord_freed (k : Nat) (v : Word) (h : Hub) : (h.setWord k v).freed = h.freed := rfl
@[simp] theorem Hub.setWord_entryFreed (k : Nat) (v : Word) (h : Hub) : (h.setWord k v).entryFreed = h.entryFreed :=
  rfl

/-! ### mapPort -/

@[simp] theorem Hub.mapPort_part (p : Fin 16) (f : PortH → PortH) (h : Hub) : (h.mapPort p f).part = h.part := rfl
@[simp] theorem Hub.mapPort_stepping (p : Fin 16) (f : PortH → PortH) (h : Hub) : (h.mapPort p f).stepping = h.stepping :=
  rfl
@[simp] theorem Hub.mapPort_straps (p : Fin 16) (f : PortH → PortH) (h : Hub) : (h.mapPort p f).straps = h.straps :=
  rfl
@[simp] theorem Hub.mapPort_power (p : Fin 16) (f : PortH → PortH) (h : Hub) : (h.mapPort p f).power = h.power := rfl
@[simp] theorem Hub.mapPort_regs (p : Fin 16) (f : PortH → PortH) (h : Hub) : (h.mapPort p f).regs = h.regs := rfl
@[simp] theorem Hub.mapPort_mem (p : Fin 16) (f : PortH → PortH) (h : Hub) : (h.mapPort p f).mem = h.mem := rfl
@[simp] theorem Hub.mapPort_poison (p : Fin 16) (f : PortH → PortH) (h : Hub) : (h.mapPort p f).poison = h.poison :=
  rfl
@[simp] theorem Hub.mapPort_upsets (p : Fin 16) (f : PortH → PortH) (h : Hub) : (h.mapPort p f).upsets = h.upsets :=
  rfl
@[simp] theorem Hub.mapPort_sun (p : Fin 16) (f : PortH → PortH) (h : Hub) : (h.mapPort p f).sun = h.sun := rfl
@[simp] theorem Hub.mapPort_lastGrant (p : Fin 16) (f : PortH → PortH) (h : Hub) : (h.mapPort p f).lastGrant = h.lastGrant :=
  rfl
@[simp] theorem Hub.mapPort_stamps (p : Fin 16) (f : PortH → PortH) (h : Hub) : (h.mapPort p f).stamps = h.stamps :=
  rfl
@[simp] theorem Hub.mapPort_ledger (p : Fin 16) (f : PortH → PortH) (h : Hub) : (h.mapPort p f).ledger = h.ledger :=
  rfl
@[simp] theorem Hub.mapPort_attachCount (p : Fin 16) (f : PortH → PortH) (h : Hub) : (h.mapPort p f).attachCount = h.attachCount :=
  rfl
@[simp] theorem Hub.mapPort_attachedClk (p : Fin 16) (f : PortH → PortH) (h : Hub) : (h.mapPort p f).attachedClk = h.attachedClk :=
  rfl
@[simp] theorem Hub.mapPort_startClk (p : Fin 16) (f : PortH → PortH) (h : Hub) : (h.mapPort p f).startClk = h.startClk :=
  rfl
@[simp] theorem Hub.mapPort_card (p : Fin 16) (f : PortH → PortH) (h : Hub) : (h.mapPort p f).card = h.card := rfl
@[simp] theorem Hub.mapPort_logRing (p : Fin 16) (f : PortH → PortH) (h : Hub) : (h.mapPort p f).logRing = h.logRing :=
  rfl
@[simp] theorem Hub.mapPort_flashQueue (p : Fin 16) (f : PortH → PortH) (h : Hub) : (h.mapPort p f).flashQueue = h.flashQueue :=
  rfl
@[simp] theorem Hub.mapPort_overruns (p : Fin 16) (f : PortH → PortH) (h : Hub) : (h.mapPort p f).overruns = h.overruns :=
  rfl
@[simp] theorem Hub.mapPort_hubSafe (p : Fin 16) (f : PortH → PortH) (h : Hub) : (h.mapPort p f).hubSafe = h.hubSafe :=
  rfl
@[simp] theorem Hub.mapPort_portSafe (p : Fin 16) (f : PortH → PortH) (h : Hub) : (h.mapPort p f).portSafe = h.portSafe :=
  rfl
@[simp] theorem Hub.mapPort_monitors (p : Fin 16) (f : PortH → PortH) (h : Hub) : (h.mapPort p f).monitors = h.monitors :=
  rfl
@[simp] theorem Hub.mapPort_vhubPins (p : Fin 16) (f : PortH → PortH) (h : Hub) : (h.mapPort p f).vhubPins = h.vhubPins :=
  rfl
@[simp] theorem Hub.mapPort_vconnGood (p : Fin 16) (f : PortH → PortH) (h : Hub) : (h.mapPort p f).vconnGood = h.vconnGood :=
  rfl
@[simp] theorem Hub.mapPort_chans (p : Fin 16) (f : PortH → PortH) (h : Hub) : (h.mapPort p f).chans = h.chans := rfl
@[simp] theorem Hub.mapPort_host (p : Fin 16) (f : PortH → PortH) (h : Hub) : (h.mapPort p f).host = h.host := rfl
@[simp] theorem Hub.mapPort_whistled (p : Fin 16) (f : PortH → PortH) (h : Hub) : (h.mapPort p f).whistled = h.whistled :=
  rfl
@[simp] theorem Hub.mapPort_rack (p : Fin 16) (f : PortH → PortH) (h : Hub) : (h.mapPort p f).rack = h.rack := rfl
@[simp] theorem Hub.mapPort_fw (p : Fin 16) (f : PortH → PortH) (h : Hub) : (h.mapPort p f).fw = h.fw := rfl
@[simp] theorem Hub.mapPort_returnPending (p : Fin 16) (f : PortH → PortH) (h : Hub) : (h.mapPort p f).returnPending = h.returnPending :=
  rfl
@[simp] theorem Hub.mapPort_returnedClk (p : Fin 16) (f : PortH → PortH) (h : Hub) : (h.mapPort p f).returnedClk = h.returnedClk :=
  rfl
@[simp] theorem Hub.mapPort_flaskClk (p : Fin 16) (f : PortH → PortH) (h : Hub) : (h.mapPort p f).flaskClk = h.flaskClk :=
  rfl
@[simp] theorem Hub.mapPort_supKick (p : Fin 16) (f : PortH → PortH) (h : Hub) : (h.mapPort p f).supKick = h.supKick :=
  rfl
@[simp] theorem Hub.mapPort_peKick (p : Fin 16) (f : PortH → PortH) (h : Hub) : (h.mapPort p f).peKick = h.peKick :=
  rfl
@[simp] theorem Hub.mapPort_takeover (p : Fin 16) (f : PortH → PortH) (h : Hub) : (h.mapPort p f).takeover = h.takeover :=
  rfl
@[simp] theorem Hub.mapPort_freeCount (p : Fin 16) (f : PortH → PortH) (h : Hub) : (h.mapPort p f).freeCount = h.freeCount :=
  rfl
@[simp] theorem Hub.mapPort_resets (p : Fin 16) (f : PortH → PortH) (h : Hub) : (h.mapPort p f).resets = h.resets :=
  rfl
@[simp] theorem Hub.mapPort_safeDue (p : Fin 16) (f : PortH → PortH) (h : Hub) : (h.mapPort p f).safeDue = h.safeDue :=
  rfl
@[simp] theorem Hub.mapPort_lostFeeds (p : Fin 16) (f : PortH → PortH) (h : Hub) : (h.mapPort p f).lostFeeds = h.lostFeeds :=
  rfl
@[simp] theorem Hub.mapPort_alertsDue (p : Fin 16) (f : PortH → PortH) (h : Hub) : (h.mapPort p f).alertsDue = h.alertsDue :=
  rfl
@[simp] theorem Hub.mapPort_freed (p : Fin 16) (f : PortH → PortH) (h : Hub) : (h.mapPort p f).freed = h.freed := rfl
@[simp] theorem Hub.mapPort_entryFreed (p : Fin 16) (f : PortH → PortH) (h : Hub) : (h.mapPort p f).entryFreed = h.entryFreed :=
  rfl
@[simp] theorem Hub.mapPort_word (p : Fin 16) (f : PortH → PortH) (h : Hub) (j : Nat) : (h.mapPort p f).word j = h.word j :=
  rfl

/-! ### setByte -/

@[simp] theorem Hub.setByte_part (a : Nat) (v : Byte) (h : Hub) : (h.setByte a v).part = h.part := rfl
@[simp] theorem Hub.setByte_stepping (a : Nat) (v : Byte) (h : Hub) : (h.setByte a v).stepping = h.stepping := rfl
@[simp] theorem Hub.setByte_straps (a : Nat) (v : Byte) (h : Hub) : (h.setByte a v).straps = h.straps := rfl
@[simp] theorem Hub.setByte_power (a : Nat) (v : Byte) (h : Hub) : (h.setByte a v).power = h.power := rfl
@[simp] theorem Hub.setByte_regs (a : Nat) (v : Byte) (h : Hub) : (h.setByte a v).regs = h.regs := rfl
@[simp] theorem Hub.setByte_poison (a : Nat) (v : Byte) (h : Hub) : (h.setByte a v).poison = h.poison := rfl
@[simp] theorem Hub.setByte_upsets (a : Nat) (v : Byte) (h : Hub) : (h.setByte a v).upsets = h.upsets := rfl
@[simp] theorem Hub.setByte_sun (a : Nat) (v : Byte) (h : Hub) : (h.setByte a v).sun = h.sun := rfl
@[simp] theorem Hub.setByte_lastGrant (a : Nat) (v : Byte) (h : Hub) : (h.setByte a v).lastGrant = h.lastGrant := rfl
@[simp] theorem Hub.setByte_stamps (a : Nat) (v : Byte) (h : Hub) : (h.setByte a v).stamps = h.stamps := rfl
@[simp] theorem Hub.setByte_ports (a : Nat) (v : Byte) (h : Hub) : (h.setByte a v).ports = h.ports := rfl
@[simp] theorem Hub.setByte_ledger (a : Nat) (v : Byte) (h : Hub) : (h.setByte a v).ledger = h.ledger := rfl
@[simp] theorem Hub.setByte_attachCount (a : Nat) (v : Byte) (h : Hub) : (h.setByte a v).attachCount = h.attachCount :=
  rfl
@[simp] theorem Hub.setByte_attachedClk (a : Nat) (v : Byte) (h : Hub) : (h.setByte a v).attachedClk = h.attachedClk :=
  rfl
@[simp] theorem Hub.setByte_startClk (a : Nat) (v : Byte) (h : Hub) : (h.setByte a v).startClk = h.startClk := rfl
@[simp] theorem Hub.setByte_card (a : Nat) (v : Byte) (h : Hub) : (h.setByte a v).card = h.card := rfl
@[simp] theorem Hub.setByte_logRing (a : Nat) (v : Byte) (h : Hub) : (h.setByte a v).logRing = h.logRing := rfl
@[simp] theorem Hub.setByte_flashQueue (a : Nat) (v : Byte) (h : Hub) : (h.setByte a v).flashQueue = h.flashQueue :=
  rfl
@[simp] theorem Hub.setByte_overruns (a : Nat) (v : Byte) (h : Hub) : (h.setByte a v).overruns = h.overruns := rfl
@[simp] theorem Hub.setByte_hubSafe (a : Nat) (v : Byte) (h : Hub) : (h.setByte a v).hubSafe = h.hubSafe := rfl
@[simp] theorem Hub.setByte_portSafe (a : Nat) (v : Byte) (h : Hub) : (h.setByte a v).portSafe = h.portSafe := rfl
@[simp] theorem Hub.setByte_monitors (a : Nat) (v : Byte) (h : Hub) : (h.setByte a v).monitors = h.monitors := rfl
@[simp] theorem Hub.setByte_vhubPins (a : Nat) (v : Byte) (h : Hub) : (h.setByte a v).vhubPins = h.vhubPins := rfl
@[simp] theorem Hub.setByte_vconnGood (a : Nat) (v : Byte) (h : Hub) : (h.setByte a v).vconnGood = h.vconnGood := rfl
@[simp] theorem Hub.setByte_chans (a : Nat) (v : Byte) (h : Hub) : (h.setByte a v).chans = h.chans := rfl
@[simp] theorem Hub.setByte_host (a : Nat) (v : Byte) (h : Hub) : (h.setByte a v).host = h.host := rfl
@[simp] theorem Hub.setByte_whistled (a : Nat) (v : Byte) (h : Hub) : (h.setByte a v).whistled = h.whistled := rfl
@[simp] theorem Hub.setByte_rack (a : Nat) (v : Byte) (h : Hub) : (h.setByte a v).rack = h.rack := rfl
@[simp] theorem Hub.setByte_fw (a : Nat) (v : Byte) (h : Hub) : (h.setByte a v).fw = h.fw := rfl
@[simp] theorem Hub.setByte_returnPending (a : Nat) (v : Byte) (h : Hub) : (h.setByte a v).returnPending = h.returnPending :=
  rfl
@[simp] theorem Hub.setByte_returnedClk (a : Nat) (v : Byte) (h : Hub) : (h.setByte a v).returnedClk = h.returnedClk :=
  rfl
@[simp] theorem Hub.setByte_flaskClk (a : Nat) (v : Byte) (h : Hub) : (h.setByte a v).flaskClk = h.flaskClk := rfl
@[simp] theorem Hub.setByte_supKick (a : Nat) (v : Byte) (h : Hub) : (h.setByte a v).supKick = h.supKick := rfl
@[simp] theorem Hub.setByte_peKick (a : Nat) (v : Byte) (h : Hub) : (h.setByte a v).peKick = h.peKick := rfl
@[simp] theorem Hub.setByte_takeover (a : Nat) (v : Byte) (h : Hub) : (h.setByte a v).takeover = h.takeover := rfl
@[simp] theorem Hub.setByte_freeCount (a : Nat) (v : Byte) (h : Hub) : (h.setByte a v).freeCount = h.freeCount := rfl
@[simp] theorem Hub.setByte_resets (a : Nat) (v : Byte) (h : Hub) : (h.setByte a v).resets = h.resets := rfl
@[simp] theorem Hub.setByte_safeDue (a : Nat) (v : Byte) (h : Hub) : (h.setByte a v).safeDue = h.safeDue := rfl
@[simp] theorem Hub.setByte_lostFeeds (a : Nat) (v : Byte) (h : Hub) : (h.setByte a v).lostFeeds = h.lostFeeds := rfl
@[simp] theorem Hub.setByte_alertsDue (a : Nat) (v : Byte) (h : Hub) : (h.setByte a v).alertsDue = h.alertsDue := rfl
@[simp] theorem Hub.setByte_freed (a : Nat) (v : Byte) (h : Hub) : (h.setByte a v).freed = h.freed := rfl
@[simp] theorem Hub.setByte_entryFreed (a : Nat) (v : Byte) (h : Hub) : (h.setByte a v).entryFreed = h.entryFreed :=
  rfl
@[simp] theorem Hub.setByte_word (a : Nat) (v : Byte) (h : Hub) (j : Nat) : (h.setByte a v).word j = h.word j := rfl

/-! ### wr -/

@[simp] theorem Hub.wr_part (f : GField) (v : Nat) (h : Hub) : (h.wr f v).part = h.part := Hub.setWord_part ..
@[simp] theorem Hub.wr_stepping (f : GField) (v : Nat) (h : Hub) : (h.wr f v).stepping = h.stepping :=
  Hub.setWord_stepping ..
@[simp] theorem Hub.wr_straps (f : GField) (v : Nat) (h : Hub) : (h.wr f v).straps = h.straps := Hub.setWord_straps ..
@[simp] theorem Hub.wr_power (f : GField) (v : Nat) (h : Hub) : (h.wr f v).power = h.power := Hub.setWord_power ..
@[simp] theorem Hub.wr_mem (f : GField) (v : Nat) (h : Hub) : (h.wr f v).mem = h.mem := Hub.setWord_mem ..
@[simp] theorem Hub.wr_poison (f : GField) (v : Nat) (h : Hub) : (h.wr f v).poison = h.poison := Hub.setWord_poison ..
@[simp] theorem Hub.wr_upsets (f : GField) (v : Nat) (h : Hub) : (h.wr f v).upsets = h.upsets := Hub.setWord_upsets ..
@[simp] theorem Hub.wr_sun (f : GField) (v : Nat) (h : Hub) : (h.wr f v).sun = h.sun := Hub.setWord_sun ..
@[simp] theorem Hub.wr_lastGrant (f : GField) (v : Nat) (h : Hub) : (h.wr f v).lastGrant = h.lastGrant :=
  Hub.setWord_lastGrant ..
@[simp] theorem Hub.wr_stamps (f : GField) (v : Nat) (h : Hub) : (h.wr f v).stamps = h.stamps := Hub.setWord_stamps ..
@[simp] theorem Hub.wr_ports (f : GField) (v : Nat) (h : Hub) : (h.wr f v).ports = h.ports := Hub.setWord_ports ..
@[simp] theorem Hub.wr_ledger (f : GField) (v : Nat) (h : Hub) : (h.wr f v).ledger = h.ledger := Hub.setWord_ledger ..
@[simp] theorem Hub.wr_attachCount (f : GField) (v : Nat) (h : Hub) : (h.wr f v).attachCount = h.attachCount :=
  Hub.setWord_attachCount ..
@[simp] theorem Hub.wr_attachedClk (f : GField) (v : Nat) (h : Hub) : (h.wr f v).attachedClk = h.attachedClk :=
  Hub.setWord_attachedClk ..
@[simp] theorem Hub.wr_startClk (f : GField) (v : Nat) (h : Hub) : (h.wr f v).startClk = h.startClk :=
  Hub.setWord_startClk ..
@[simp] theorem Hub.wr_card (f : GField) (v : Nat) (h : Hub) : (h.wr f v).card = h.card := Hub.setWord_card ..
@[simp] theorem Hub.wr_logRing (f : GField) (v : Nat) (h : Hub) : (h.wr f v).logRing = h.logRing :=
  Hub.setWord_logRing ..
@[simp] theorem Hub.wr_flashQueue (f : GField) (v : Nat) (h : Hub) : (h.wr f v).flashQueue = h.flashQueue :=
  Hub.setWord_flashQueue ..
@[simp] theorem Hub.wr_overruns (f : GField) (v : Nat) (h : Hub) : (h.wr f v).overruns = h.overruns :=
  Hub.setWord_overruns ..
@[simp] theorem Hub.wr_hubSafe (f : GField) (v : Nat) (h : Hub) : (h.wr f v).hubSafe = h.hubSafe :=
  Hub.setWord_hubSafe ..
@[simp] theorem Hub.wr_portSafe (f : GField) (v : Nat) (h : Hub) : (h.wr f v).portSafe = h.portSafe :=
  Hub.setWord_portSafe ..
@[simp] theorem Hub.wr_monitors (f : GField) (v : Nat) (h : Hub) : (h.wr f v).monitors = h.monitors :=
  Hub.setWord_monitors ..
@[simp] theorem Hub.wr_vhubPins (f : GField) (v : Nat) (h : Hub) : (h.wr f v).vhubPins = h.vhubPins :=
  Hub.setWord_vhubPins ..
@[simp] theorem Hub.wr_vconnGood (f : GField) (v : Nat) (h : Hub) : (h.wr f v).vconnGood = h.vconnGood :=
  Hub.setWord_vconnGood ..
@[simp] theorem Hub.wr_chans (f : GField) (v : Nat) (h : Hub) : (h.wr f v).chans = h.chans := Hub.setWord_chans ..
@[simp] theorem Hub.wr_host (f : GField) (v : Nat) (h : Hub) : (h.wr f v).host = h.host := Hub.setWord_host ..
@[simp] theorem Hub.wr_whistled (f : GField) (v : Nat) (h : Hub) : (h.wr f v).whistled = h.whistled :=
  Hub.setWord_whistled ..
@[simp] theorem Hub.wr_rack (f : GField) (v : Nat) (h : Hub) : (h.wr f v).rack = h.rack := Hub.setWord_rack ..
@[simp] theorem Hub.wr_fw (f : GField) (v : Nat) (h : Hub) : (h.wr f v).fw = h.fw := Hub.setWord_fw ..
@[simp] theorem Hub.wr_returnPending (f : GField) (v : Nat) (h : Hub) : (h.wr f v).returnPending = h.returnPending :=
  Hub.setWord_returnPending ..
@[simp] theorem Hub.wr_returnedClk (f : GField) (v : Nat) (h : Hub) : (h.wr f v).returnedClk = h.returnedClk :=
  Hub.setWord_returnedClk ..
@[simp] theorem Hub.wr_flaskClk (f : GField) (v : Nat) (h : Hub) : (h.wr f v).flaskClk = h.flaskClk :=
  Hub.setWord_flaskClk ..
@[simp] theorem Hub.wr_supKick (f : GField) (v : Nat) (h : Hub) : (h.wr f v).supKick = h.supKick :=
  Hub.setWord_supKick ..
@[simp] theorem Hub.wr_peKick (f : GField) (v : Nat) (h : Hub) : (h.wr f v).peKick = h.peKick := Hub.setWord_peKick ..
@[simp] theorem Hub.wr_takeover (f : GField) (v : Nat) (h : Hub) : (h.wr f v).takeover = h.takeover :=
  Hub.setWord_takeover ..
@[simp] theorem Hub.wr_freeCount (f : GField) (v : Nat) (h : Hub) : (h.wr f v).freeCount = h.freeCount :=
  Hub.setWord_freeCount ..
@[simp] theorem Hub.wr_resets (f : GField) (v : Nat) (h : Hub) : (h.wr f v).resets = h.resets := Hub.setWord_resets ..
@[simp] theorem Hub.wr_safeDue (f : GField) (v : Nat) (h : Hub) : (h.wr f v).safeDue = h.safeDue :=
  Hub.setWord_safeDue ..
@[simp] theorem Hub.wr_lostFeeds (f : GField) (v : Nat) (h : Hub) : (h.wr f v).lostFeeds = h.lostFeeds :=
  Hub.setWord_lostFeeds ..
@[simp] theorem Hub.wr_alertsDue (f : GField) (v : Nat) (h : Hub) : (h.wr f v).alertsDue = h.alertsDue :=
  Hub.setWord_alertsDue ..
@[simp] theorem Hub.wr_freed (f : GField) (v : Nat) (h : Hub) : (h.wr f v).freed = h.freed := Hub.setWord_freed ..
@[simp] theorem Hub.wr_entryFreed (f : GField) (v : Nat) (h : Hub) : (h.wr f v).entryFreed = h.entryFreed :=
  Hub.setWord_entryFreed ..

/-! ### pwr -/

@[simp] theorem Hub.pwr_part (p : Fin 16) (f : PField) (v : Nat) (h : Hub) : (h.pwr p f v).part = h.part :=
  Hub.setWord_part ..
@[simp] theorem Hub.pwr_stepping (p : Fin 16) (f : PField) (v : Nat) (h : Hub) : (h.pwr p f v).stepping = h.stepping :=
  Hub.setWord_stepping ..
@[simp] theorem Hub.pwr_straps (p : Fin 16) (f : PField) (v : Nat) (h : Hub) : (h.pwr p f v).straps = h.straps :=
  Hub.setWord_straps ..
@[simp] theorem Hub.pwr_power (p : Fin 16) (f : PField) (v : Nat) (h : Hub) : (h.pwr p f v).power = h.power :=
  Hub.setWord_power ..
@[simp] theorem Hub.pwr_mem (p : Fin 16) (f : PField) (v : Nat) (h : Hub) : (h.pwr p f v).mem = h.mem :=
  Hub.setWord_mem ..
@[simp] theorem Hub.pwr_poison (p : Fin 16) (f : PField) (v : Nat) (h : Hub) : (h.pwr p f v).poison = h.poison :=
  Hub.setWord_poison ..
@[simp] theorem Hub.pwr_upsets (p : Fin 16) (f : PField) (v : Nat) (h : Hub) : (h.pwr p f v).upsets = h.upsets :=
  Hub.setWord_upsets ..
@[simp] theorem Hub.pwr_sun (p : Fin 16) (f : PField) (v : Nat) (h : Hub) : (h.pwr p f v).sun = h.sun :=
  Hub.setWord_sun ..
@[simp] theorem Hub.pwr_lastGrant (p : Fin 16) (f : PField) (v : Nat) (h : Hub) : (h.pwr p f v).lastGrant = h.lastGrant :=
  Hub.setWord_lastGrant ..
@[simp] theorem Hub.pwr_stamps (p : Fin 16) (f : PField) (v : Nat) (h : Hub) : (h.pwr p f v).stamps = h.stamps :=
  Hub.setWord_stamps ..
@[simp] theorem Hub.pwr_ports (p : Fin 16) (f : PField) (v : Nat) (h : Hub) : (h.pwr p f v).ports = h.ports :=
  Hub.setWord_ports ..
@[simp] theorem Hub.pwr_ledger (p : Fin 16) (f : PField) (v : Nat) (h : Hub) : (h.pwr p f v).ledger = h.ledger :=
  Hub.setWord_ledger ..
@[simp] theorem Hub.pwr_attachCount (p : Fin 16) (f : PField) (v : Nat) (h : Hub) : (h.pwr p f v).attachCount = h.attachCount :=
  Hub.setWord_attachCount ..
@[simp] theorem Hub.pwr_attachedClk (p : Fin 16) (f : PField) (v : Nat) (h : Hub) : (h.pwr p f v).attachedClk = h.attachedClk :=
  Hub.setWord_attachedClk ..
@[simp] theorem Hub.pwr_startClk (p : Fin 16) (f : PField) (v : Nat) (h : Hub) : (h.pwr p f v).startClk = h.startClk :=
  Hub.setWord_startClk ..
@[simp] theorem Hub.pwr_card (p : Fin 16) (f : PField) (v : Nat) (h : Hub) : (h.pwr p f v).card = h.card :=
  Hub.setWord_card ..
@[simp] theorem Hub.pwr_logRing (p : Fin 16) (f : PField) (v : Nat) (h : Hub) : (h.pwr p f v).logRing = h.logRing :=
  Hub.setWord_logRing ..
@[simp] theorem Hub.pwr_flashQueue (p : Fin 16) (f : PField) (v : Nat) (h : Hub) : (h.pwr p f v).flashQueue = h.flashQueue :=
  Hub.setWord_flashQueue ..
@[simp] theorem Hub.pwr_overruns (p : Fin 16) (f : PField) (v : Nat) (h : Hub) : (h.pwr p f v).overruns = h.overruns :=
  Hub.setWord_overruns ..
@[simp] theorem Hub.pwr_hubSafe (p : Fin 16) (f : PField) (v : Nat) (h : Hub) : (h.pwr p f v).hubSafe = h.hubSafe :=
  Hub.setWord_hubSafe ..
@[simp] theorem Hub.pwr_portSafe (p : Fin 16) (f : PField) (v : Nat) (h : Hub) : (h.pwr p f v).portSafe = h.portSafe :=
  Hub.setWord_portSafe ..
@[simp] theorem Hub.pwr_monitors (p : Fin 16) (f : PField) (v : Nat) (h : Hub) : (h.pwr p f v).monitors = h.monitors :=
  Hub.setWord_monitors ..
@[simp] theorem Hub.pwr_vhubPins (p : Fin 16) (f : PField) (v : Nat) (h : Hub) : (h.pwr p f v).vhubPins = h.vhubPins :=
  Hub.setWord_vhubPins ..
@[simp] theorem Hub.pwr_vconnGood (p : Fin 16) (f : PField) (v : Nat) (h : Hub) : (h.pwr p f v).vconnGood = h.vconnGood :=
  Hub.setWord_vconnGood ..
@[simp] theorem Hub.pwr_chans (p : Fin 16) (f : PField) (v : Nat) (h : Hub) : (h.pwr p f v).chans = h.chans :=
  Hub.setWord_chans ..
@[simp] theorem Hub.pwr_host (p : Fin 16) (f : PField) (v : Nat) (h : Hub) : (h.pwr p f v).host = h.host :=
  Hub.setWord_host ..
@[simp] theorem Hub.pwr_whistled (p : Fin 16) (f : PField) (v : Nat) (h : Hub) : (h.pwr p f v).whistled = h.whistled :=
  Hub.setWord_whistled ..
@[simp] theorem Hub.pwr_rack (p : Fin 16) (f : PField) (v : Nat) (h : Hub) : (h.pwr p f v).rack = h.rack :=
  Hub.setWord_rack ..
@[simp] theorem Hub.pwr_fw (p : Fin 16) (f : PField) (v : Nat) (h : Hub) : (h.pwr p f v).fw = h.fw := Hub.setWord_fw ..
@[simp] theorem Hub.pwr_returnPending (p : Fin 16) (f : PField) (v : Nat) (h : Hub) : (h.pwr p f v).returnPending = h.returnPending :=
  Hub.setWord_returnPending ..
@[simp] theorem Hub.pwr_returnedClk (p : Fin 16) (f : PField) (v : Nat) (h : Hub) : (h.pwr p f v).returnedClk = h.returnedClk :=
  Hub.setWord_returnedClk ..
@[simp] theorem Hub.pwr_flaskClk (p : Fin 16) (f : PField) (v : Nat) (h : Hub) : (h.pwr p f v).flaskClk = h.flaskClk :=
  Hub.setWord_flaskClk ..
@[simp] theorem Hub.pwr_supKick (p : Fin 16) (f : PField) (v : Nat) (h : Hub) : (h.pwr p f v).supKick = h.supKick :=
  Hub.setWord_supKick ..
@[simp] theorem Hub.pwr_peKick (p : Fin 16) (f : PField) (v : Nat) (h : Hub) : (h.pwr p f v).peKick = h.peKick :=
  Hub.setWord_peKick ..
@[simp] theorem Hub.pwr_takeover (p : Fin 16) (f : PField) (v : Nat) (h : Hub) : (h.pwr p f v).takeover = h.takeover :=
  Hub.setWord_takeover ..
@[simp] theorem Hub.pwr_freeCount (p : Fin 16) (f : PField) (v : Nat) (h : Hub) : (h.pwr p f v).freeCount = h.freeCount :=
  Hub.setWord_freeCount ..
@[simp] theorem Hub.pwr_resets (p : Fin 16) (f : PField) (v : Nat) (h : Hub) : (h.pwr p f v).resets = h.resets :=
  Hub.setWord_resets ..
@[simp] theorem Hub.pwr_safeDue (p : Fin 16) (f : PField) (v : Nat) (h : Hub) : (h.pwr p f v).safeDue = h.safeDue :=
  Hub.setWord_safeDue ..
@[simp] theorem Hub.pwr_lostFeeds (p : Fin 16) (f : PField) (v : Nat) (h : Hub) : (h.pwr p f v).lostFeeds = h.lostFeeds :=
  Hub.setWord_lostFeeds ..
@[simp] theorem Hub.pwr_alertsDue (p : Fin 16) (f : PField) (v : Nat) (h : Hub) : (h.pwr p f v).alertsDue = h.alertsDue :=
  Hub.setWord_alertsDue ..
@[simp] theorem Hub.pwr_freed (p : Fin 16) (f : PField) (v : Nat) (h : Hub) : (h.pwr p f v).freed = h.freed :=
  Hub.setWord_freed ..
@[simp] theorem Hub.pwr_entryFreed (p : Fin 16) (f : PField) (v : Nat) (h : Hub) : (h.pwr p f v).entryFreed = h.entryFreed :=
  Hub.setWord_entryFreed ..

/-! ### cwr -/

@[simp] theorem Hub.cwr_part (p : Fin 16) (f : CField) (v : Nat) (h : Hub) : (h.cwr p f v).part = h.part :=
  Hub.setWord_part ..
@[simp] theorem Hub.cwr_stepping (p : Fin 16) (f : CField) (v : Nat) (h : Hub) : (h.cwr p f v).stepping = h.stepping :=
  Hub.setWord_stepping ..
@[simp] theorem Hub.cwr_straps (p : Fin 16) (f : CField) (v : Nat) (h : Hub) : (h.cwr p f v).straps = h.straps :=
  Hub.setWord_straps ..
@[simp] theorem Hub.cwr_power (p : Fin 16) (f : CField) (v : Nat) (h : Hub) : (h.cwr p f v).power = h.power :=
  Hub.setWord_power ..
@[simp] theorem Hub.cwr_mem (p : Fin 16) (f : CField) (v : Nat) (h : Hub) : (h.cwr p f v).mem = h.mem :=
  Hub.setWord_mem ..
@[simp] theorem Hub.cwr_poison (p : Fin 16) (f : CField) (v : Nat) (h : Hub) : (h.cwr p f v).poison = h.poison :=
  Hub.setWord_poison ..
@[simp] theorem Hub.cwr_upsets (p : Fin 16) (f : CField) (v : Nat) (h : Hub) : (h.cwr p f v).upsets = h.upsets :=
  Hub.setWord_upsets ..
@[simp] theorem Hub.cwr_sun (p : Fin 16) (f : CField) (v : Nat) (h : Hub) : (h.cwr p f v).sun = h.sun :=
  Hub.setWord_sun ..
@[simp] theorem Hub.cwr_lastGrant (p : Fin 16) (f : CField) (v : Nat) (h : Hub) : (h.cwr p f v).lastGrant = h.lastGrant :=
  Hub.setWord_lastGrant ..
@[simp] theorem Hub.cwr_stamps (p : Fin 16) (f : CField) (v : Nat) (h : Hub) : (h.cwr p f v).stamps = h.stamps :=
  Hub.setWord_stamps ..
@[simp] theorem Hub.cwr_ports (p : Fin 16) (f : CField) (v : Nat) (h : Hub) : (h.cwr p f v).ports = h.ports :=
  Hub.setWord_ports ..
@[simp] theorem Hub.cwr_ledger (p : Fin 16) (f : CField) (v : Nat) (h : Hub) : (h.cwr p f v).ledger = h.ledger :=
  Hub.setWord_ledger ..
@[simp] theorem Hub.cwr_attachCount (p : Fin 16) (f : CField) (v : Nat) (h : Hub) : (h.cwr p f v).attachCount = h.attachCount :=
  Hub.setWord_attachCount ..
@[simp] theorem Hub.cwr_attachedClk (p : Fin 16) (f : CField) (v : Nat) (h : Hub) : (h.cwr p f v).attachedClk = h.attachedClk :=
  Hub.setWord_attachedClk ..
@[simp] theorem Hub.cwr_startClk (p : Fin 16) (f : CField) (v : Nat) (h : Hub) : (h.cwr p f v).startClk = h.startClk :=
  Hub.setWord_startClk ..
@[simp] theorem Hub.cwr_card (p : Fin 16) (f : CField) (v : Nat) (h : Hub) : (h.cwr p f v).card = h.card :=
  Hub.setWord_card ..
@[simp] theorem Hub.cwr_logRing (p : Fin 16) (f : CField) (v : Nat) (h : Hub) : (h.cwr p f v).logRing = h.logRing :=
  Hub.setWord_logRing ..
@[simp] theorem Hub.cwr_flashQueue (p : Fin 16) (f : CField) (v : Nat) (h : Hub) : (h.cwr p f v).flashQueue = h.flashQueue :=
  Hub.setWord_flashQueue ..
@[simp] theorem Hub.cwr_overruns (p : Fin 16) (f : CField) (v : Nat) (h : Hub) : (h.cwr p f v).overruns = h.overruns :=
  Hub.setWord_overruns ..
@[simp] theorem Hub.cwr_hubSafe (p : Fin 16) (f : CField) (v : Nat) (h : Hub) : (h.cwr p f v).hubSafe = h.hubSafe :=
  Hub.setWord_hubSafe ..
@[simp] theorem Hub.cwr_portSafe (p : Fin 16) (f : CField) (v : Nat) (h : Hub) : (h.cwr p f v).portSafe = h.portSafe :=
  Hub.setWord_portSafe ..
@[simp] theorem Hub.cwr_monitors (p : Fin 16) (f : CField) (v : Nat) (h : Hub) : (h.cwr p f v).monitors = h.monitors :=
  Hub.setWord_monitors ..
@[simp] theorem Hub.cwr_vhubPins (p : Fin 16) (f : CField) (v : Nat) (h : Hub) : (h.cwr p f v).vhubPins = h.vhubPins :=
  Hub.setWord_vhubPins ..
@[simp] theorem Hub.cwr_vconnGood (p : Fin 16) (f : CField) (v : Nat) (h : Hub) : (h.cwr p f v).vconnGood = h.vconnGood :=
  Hub.setWord_vconnGood ..
@[simp] theorem Hub.cwr_chans (p : Fin 16) (f : CField) (v : Nat) (h : Hub) : (h.cwr p f v).chans = h.chans :=
  Hub.setWord_chans ..
@[simp] theorem Hub.cwr_host (p : Fin 16) (f : CField) (v : Nat) (h : Hub) : (h.cwr p f v).host = h.host :=
  Hub.setWord_host ..
@[simp] theorem Hub.cwr_whistled (p : Fin 16) (f : CField) (v : Nat) (h : Hub) : (h.cwr p f v).whistled = h.whistled :=
  Hub.setWord_whistled ..
@[simp] theorem Hub.cwr_rack (p : Fin 16) (f : CField) (v : Nat) (h : Hub) : (h.cwr p f v).rack = h.rack :=
  Hub.setWord_rack ..
@[simp] theorem Hub.cwr_fw (p : Fin 16) (f : CField) (v : Nat) (h : Hub) : (h.cwr p f v).fw = h.fw := Hub.setWord_fw ..
@[simp] theorem Hub.cwr_returnPending (p : Fin 16) (f : CField) (v : Nat) (h : Hub) : (h.cwr p f v).returnPending = h.returnPending :=
  Hub.setWord_returnPending ..
@[simp] theorem Hub.cwr_returnedClk (p : Fin 16) (f : CField) (v : Nat) (h : Hub) : (h.cwr p f v).returnedClk = h.returnedClk :=
  Hub.setWord_returnedClk ..
@[simp] theorem Hub.cwr_flaskClk (p : Fin 16) (f : CField) (v : Nat) (h : Hub) : (h.cwr p f v).flaskClk = h.flaskClk :=
  Hub.setWord_flaskClk ..
@[simp] theorem Hub.cwr_supKick (p : Fin 16) (f : CField) (v : Nat) (h : Hub) : (h.cwr p f v).supKick = h.supKick :=
  Hub.setWord_supKick ..
@[simp] theorem Hub.cwr_peKick (p : Fin 16) (f : CField) (v : Nat) (h : Hub) : (h.cwr p f v).peKick = h.peKick :=
  Hub.setWord_peKick ..
@[simp] theorem Hub.cwr_takeover (p : Fin 16) (f : CField) (v : Nat) (h : Hub) : (h.cwr p f v).takeover = h.takeover :=
  Hub.setWord_takeover ..
@[simp] theorem Hub.cwr_freeCount (p : Fin 16) (f : CField) (v : Nat) (h : Hub) : (h.cwr p f v).freeCount = h.freeCount :=
  Hub.setWord_freeCount ..
@[simp] theorem Hub.cwr_resets (p : Fin 16) (f : CField) (v : Nat) (h : Hub) : (h.cwr p f v).resets = h.resets :=
  Hub.setWord_resets ..
@[simp] theorem Hub.cwr_safeDue (p : Fin 16) (f : CField) (v : Nat) (h : Hub) : (h.cwr p f v).safeDue = h.safeDue :=
  Hub.setWord_safeDue ..
@[simp] theorem Hub.cwr_lostFeeds (p : Fin 16) (f : CField) (v : Nat) (h : Hub) : (h.cwr p f v).lostFeeds = h.lostFeeds :=
  Hub.setWord_lostFeeds ..
@[simp] theorem Hub.cwr_alertsDue (p : Fin 16) (f : CField) (v : Nat) (h : Hub) : (h.cwr p f v).alertsDue = h.alertsDue :=
  Hub.setWord_alertsDue ..
@[simp] theorem Hub.cwr_freed (p : Fin 16) (f : CField) (v : Nat) (h : Hub) : (h.cwr p f v).freed = h.freed :=
  Hub.setWord_freed ..
@[simp] theorem Hub.cwr_entryFreed (p : Fin 16) (f : CField) (v : Nat) (h : Hub) : (h.cwr p f v).entryFreed = h.entryFreed :=
  Hub.setWord_entryFreed ..

/-! ### mwr -/

@[simp] theorem Hub.mwr_part (m : Master) (f : MField) (v : Nat) (h : Hub) : (h.mwr m f v).part = h.part :=
  Hub.setWord_part ..
@[simp] theorem Hub.mwr_stepping (m : Master) (f : MField) (v : Nat) (h : Hub) : (h.mwr m f v).stepping = h.stepping :=
  Hub.setWord_stepping ..
@[simp] theorem Hub.mwr_straps (m : Master) (f : MField) (v : Nat) (h : Hub) : (h.mwr m f v).straps = h.straps :=
  Hub.setWord_straps ..
@[simp] theorem Hub.mwr_power (m : Master) (f : MField) (v : Nat) (h : Hub) : (h.mwr m f v).power = h.power :=
  Hub.setWord_power ..
@[simp] theorem Hub.mwr_mem (m : Master) (f : MField) (v : Nat) (h : Hub) : (h.mwr m f v).mem = h.mem :=
  Hub.setWord_mem ..
@[simp] theorem Hub.mwr_poison (m : Master) (f : MField) (v : Nat) (h : Hub) : (h.mwr m f v).poison = h.poison :=
  Hub.setWord_poison ..
@[simp] theorem Hub.mwr_upsets (m : Master) (f : MField) (v : Nat) (h : Hub) : (h.mwr m f v).upsets = h.upsets :=
  Hub.setWord_upsets ..
@[simp] theorem Hub.mwr_sun (m : Master) (f : MField) (v : Nat) (h : Hub) : (h.mwr m f v).sun = h.sun :=
  Hub.setWord_sun ..
@[simp] theorem Hub.mwr_lastGrant (m : Master) (f : MField) (v : Nat) (h : Hub) : (h.mwr m f v).lastGrant = h.lastGrant :=
  Hub.setWord_lastGrant ..
@[simp] theorem Hub.mwr_stamps (m : Master) (f : MField) (v : Nat) (h : Hub) : (h.mwr m f v).stamps = h.stamps :=
  Hub.setWord_stamps ..
@[simp] theorem Hub.mwr_ports (m : Master) (f : MField) (v : Nat) (h : Hub) : (h.mwr m f v).ports = h.ports :=
  Hub.setWord_ports ..
@[simp] theorem Hub.mwr_ledger (m : Master) (f : MField) (v : Nat) (h : Hub) : (h.mwr m f v).ledger = h.ledger :=
  Hub.setWord_ledger ..
@[simp] theorem Hub.mwr_attachCount (m : Master) (f : MField) (v : Nat) (h : Hub) : (h.mwr m f v).attachCount = h.attachCount :=
  Hub.setWord_attachCount ..
@[simp] theorem Hub.mwr_attachedClk (m : Master) (f : MField) (v : Nat) (h : Hub) : (h.mwr m f v).attachedClk = h.attachedClk :=
  Hub.setWord_attachedClk ..
@[simp] theorem Hub.mwr_startClk (m : Master) (f : MField) (v : Nat) (h : Hub) : (h.mwr m f v).startClk = h.startClk :=
  Hub.setWord_startClk ..
@[simp] theorem Hub.mwr_card (m : Master) (f : MField) (v : Nat) (h : Hub) : (h.mwr m f v).card = h.card :=
  Hub.setWord_card ..
@[simp] theorem Hub.mwr_logRing (m : Master) (f : MField) (v : Nat) (h : Hub) : (h.mwr m f v).logRing = h.logRing :=
  Hub.setWord_logRing ..
@[simp] theorem Hub.mwr_flashQueue (m : Master) (f : MField) (v : Nat) (h : Hub) : (h.mwr m f v).flashQueue = h.flashQueue :=
  Hub.setWord_flashQueue ..
@[simp] theorem Hub.mwr_overruns (m : Master) (f : MField) (v : Nat) (h : Hub) : (h.mwr m f v).overruns = h.overruns :=
  Hub.setWord_overruns ..
@[simp] theorem Hub.mwr_hubSafe (m : Master) (f : MField) (v : Nat) (h : Hub) : (h.mwr m f v).hubSafe = h.hubSafe :=
  Hub.setWord_hubSafe ..
@[simp] theorem Hub.mwr_portSafe (m : Master) (f : MField) (v : Nat) (h : Hub) : (h.mwr m f v).portSafe = h.portSafe :=
  Hub.setWord_portSafe ..
@[simp] theorem Hub.mwr_monitors (m : Master) (f : MField) (v : Nat) (h : Hub) : (h.mwr m f v).monitors = h.monitors :=
  Hub.setWord_monitors ..
@[simp] theorem Hub.mwr_vhubPins (m : Master) (f : MField) (v : Nat) (h : Hub) : (h.mwr m f v).vhubPins = h.vhubPins :=
  Hub.setWord_vhubPins ..
@[simp] theorem Hub.mwr_vconnGood (m : Master) (f : MField) (v : Nat) (h : Hub) : (h.mwr m f v).vconnGood = h.vconnGood :=
  Hub.setWord_vconnGood ..
@[simp] theorem Hub.mwr_chans (m : Master) (f : MField) (v : Nat) (h : Hub) : (h.mwr m f v).chans = h.chans :=
  Hub.setWord_chans ..
@[simp] theorem Hub.mwr_host (m : Master) (f : MField) (v : Nat) (h : Hub) : (h.mwr m f v).host = h.host :=
  Hub.setWord_host ..
@[simp] theorem Hub.mwr_whistled (m : Master) (f : MField) (v : Nat) (h : Hub) : (h.mwr m f v).whistled = h.whistled :=
  Hub.setWord_whistled ..
@[simp] theorem Hub.mwr_rack (m : Master) (f : MField) (v : Nat) (h : Hub) : (h.mwr m f v).rack = h.rack :=
  Hub.setWord_rack ..
@[simp] theorem Hub.mwr_fw (m : Master) (f : MField) (v : Nat) (h : Hub) : (h.mwr m f v).fw = h.fw := Hub.setWord_fw ..
@[simp] theorem Hub.mwr_returnPending (m : Master) (f : MField) (v : Nat) (h : Hub) : (h.mwr m f v).returnPending = h.returnPending :=
  Hub.setWord_returnPending ..
@[simp] theorem Hub.mwr_returnedClk (m : Master) (f : MField) (v : Nat) (h : Hub) : (h.mwr m f v).returnedClk = h.returnedClk :=
  Hub.setWord_returnedClk ..
@[simp] theorem Hub.mwr_flaskClk (m : Master) (f : MField) (v : Nat) (h : Hub) : (h.mwr m f v).flaskClk = h.flaskClk :=
  Hub.setWord_flaskClk ..
@[simp] theorem Hub.mwr_supKick (m : Master) (f : MField) (v : Nat) (h : Hub) : (h.mwr m f v).supKick = h.supKick :=
  Hub.setWord_supKick ..
@[simp] theorem Hub.mwr_peKick (m : Master) (f : MField) (v : Nat) (h : Hub) : (h.mwr m f v).peKick = h.peKick :=
  Hub.setWord_peKick ..
@[simp] theorem Hub.mwr_takeover (m : Master) (f : MField) (v : Nat) (h : Hub) : (h.mwr m f v).takeover = h.takeover :=
  Hub.setWord_takeover ..
@[simp] theorem Hub.mwr_freeCount (m : Master) (f : MField) (v : Nat) (h : Hub) : (h.mwr m f v).freeCount = h.freeCount :=
  Hub.setWord_freeCount ..
@[simp] theorem Hub.mwr_resets (m : Master) (f : MField) (v : Nat) (h : Hub) : (h.mwr m f v).resets = h.resets :=
  Hub.setWord_resets ..
@[simp] theorem Hub.mwr_safeDue (m : Master) (f : MField) (v : Nat) (h : Hub) : (h.mwr m f v).safeDue = h.safeDue :=
  Hub.setWord_safeDue ..
@[simp] theorem Hub.mwr_lostFeeds (m : Master) (f : MField) (v : Nat) (h : Hub) : (h.mwr m f v).lostFeeds = h.lostFeeds :=
  Hub.setWord_lostFeeds ..
@[simp] theorem Hub.mwr_alertsDue (m : Master) (f : MField) (v : Nat) (h : Hub) : (h.mwr m f v).alertsDue = h.alertsDue :=
  Hub.setWord_alertsDue ..
@[simp] theorem Hub.mwr_freed (m : Master) (f : MField) (v : Nat) (h : Hub) : (h.mwr m f v).freed = h.freed :=
  Hub.setWord_freed ..
@[simp] theorem Hub.mwr_entryFreed (m : Master) (f : MField) (v : Nat) (h : Hub) : (h.mwr m f v).entryFreed = h.entryFreed :=
  Hub.setWord_entryFreed ..

/-! ### setEngine and applyHub -/

@[simp] theorem setEngine_hub (e : Fin 18) (f : Engine → Engine) (s : State) : (setEngine e f s).hub = s.hub := rfl
@[simp] theorem setEngine_pending (e : Fin 18) (f : Engine → Engine) (s : State) : (setEngine e f s).pending = s.pending :=
  rfl
@[simp] theorem applyHub_pending (f : Hub → Hub) (s : State) : (applyHub f s).pending = s.pending := rfl

end Sys2Proof.Machine
end

