-- ==== Sys2Proof/Laws/Regs.lean ====
section
/-! SUPPORT. Laws of registers and their fields: what a write of a word or of a field leaves at every word and in every
other field. -/

namespace Sys2Proof.Machine

/-! ### Words -/

/-- Read after write: the word written reads as the value, every other word as before. -/
theorem Hub.word_setWord (h : Hub) (k j : Nat) (v : Word) :
    (h.setWord k v).word j = if j = k then v else h.word j := sparseGet_set h.regs k j v

/-- The word written reads as the value. -/
@[simp] theorem Hub.word_setWord_self (h : Hub) (k : Nat) (v : Word) : (h.setWord k v).word k = v := by
  rw [Hub.word_setWord, if_pos rfl]

/-- Every other word reads as before. -/
theorem Hub.word_setWord_ne (h : Hub) {k j : Nat} (v : Word) (hj : j ≠ k) : (h.setWord k v).word j = h.word j := by
  rw [Hub.word_setWord, if_neg hj]

/-! ### Fields of a word -/

/-- A field lies inside its word. -/
def Bits.inWord (b : Bits) : Bool := b.lo + b.width ≤ 32

/-- Two fields of a word share no bit. -/
def Bits.apart (b c : Bits) : Bool := b.lo + b.width ≤ c.lo || c.lo + c.width ≤ b.lo

/-- The number that a put leaves: below the field, the field, and above it. -/
theorem Bits.put_toNat (b : Bits) (v : Nat) (w : Word) (hb : b.inWord = true) :
    (b.put v w).toNat =
      2 ^ b.lo * (2 ^ b.width * (w.toNat / 2 ^ b.lo / 2 ^ b.width) + v % 2 ^ b.width) + w.toNat % 2 ^ b.lo := by
  simp only [Bits.inWord, decide_eq_true_eq] at hb
  have hw : w.toNat / 2 ^ b.lo / 2 ^ b.width < 2 ^ (32 - (b.lo + b.width)) := by
    rw [Nat.div_div_eq_div_mul, ← Nat.pow_add, Nat.div_lt_iff_lt_mul (Nat.two_pow_pos _), ← Nat.pow_add,
      Nat.sub_add_cancel hb]
    exact w.isLt
  have h1 := Nat.div_add_mod w.toNat (2 ^ b.lo)
  have h2 := Nat.div_add_mod (w.toNat / 2 ^ b.lo) (2 ^ b.width)
  have hlow := Nat.mod_lt w.toNat (Nat.two_pow_pos b.lo)
  have hv := Nat.mod_lt v (Nat.two_pow_pos b.width)
  generalize hq : w.toNat / 2 ^ b.lo / 2 ^ b.width = q at hw h2 ⊢
  generalize hr : w.toNat % 2 ^ b.lo = r at h1 hlow ⊢
  generalize hm : w.toNat / 2 ^ b.lo % 2 ^ b.width = m at h2
  generalize hx : v % 2 ^ b.width = x at hv
  unfold Bits.put Bits.get
  rw [hm, hx, BitVec.toNat_ofNat, ← h1, ← h2]
  have e1 : 2 ^ b.lo * (2 ^ b.width * q + m) + r - m * 2 ^ b.lo + x * 2 ^ b.lo =
      2 ^ b.lo * (2 ^ b.width * q + x) + r := by
    have a1 : 2 ^ b.lo * (2 ^ b.width * q + m) = 2 ^ b.lo * (2 ^ b.width * q) + m * 2 ^ b.lo := by
      rw [Nat.mul_add, Nat.mul_comm m]
    have a2 : 2 ^ b.lo * (2 ^ b.width * q + x) = 2 ^ b.lo * (2 ^ b.width * q) + x * 2 ^ b.lo := by
      rw [Nat.mul_add, Nat.mul_comm x]
    omega
  rw [e1]
  refine Nat.mod_eq_of_lt ?_
  have h3 : 2 ^ b.width * q + x < 2 ^ b.width * (q + 1) := by rw [Nat.mul_add, Nat.mul_one]; omega
  have h4 : 2 ^ b.lo * (2 ^ b.width * q + x) + r < 2 ^ b.lo * (2 ^ b.width * q + x + 1) := by
    rw [Nat.mul_add _ _ 1, Nat.mul_one]; omega
  have h5 : 2 ^ b.lo * (2 ^ b.width * q + x + 1) ≤ 2 ^ b.lo * (2 ^ b.width * (q + 1)) := Nat.mul_le_mul_left _ h3
  have h6 : 2 ^ b.lo * (2 ^ b.width * (q + 1)) ≤ 2 ^ b.lo * (2 ^ b.width * 2 ^ (32 - (b.lo + b.width))) :=
    Nat.mul_le_mul_left _ (Nat.mul_le_mul_left _ hw)
  have h7 : 2 ^ b.lo * (2 ^ b.width * 2 ^ (32 - (b.lo + b.width))) = 2 ^ 32 := by
    rw [← Nat.mul_assoc, ← Nat.pow_add, ← Nat.pow_add, Nat.add_sub_cancel' hb]
  omega

/-- A put leaves a word whose bits are the value's in the field and the old word's elsewhere. -/
theorem Bits.put_testBit (b : Bits) (v : Nat) (w : Word) (i : Nat) (hb : b.inWord = true) :
    (b.put v w).toNat.testBit i =
      if b.lo ≤ i ∧ i < b.lo + b.width then v.testBit (i - b.lo) else w.toNat.testBit i := by
  rw [Bits.put_toNat b v w hb]
  have hlow := Nat.mod_lt w.toNat (Nat.two_pow_pos b.lo)
  have hv := Nat.mod_lt v (Nat.two_pow_pos b.width)
  rw [Nat.testBit_two_pow_mul_add _ hlow, Nat.testBit_two_pow_mul_add _ hv]
  split
  · rename_i h
    rw [if_neg (by omega)]
    simp [Nat.testBit_mod_two_pow, h]
  · rename_i h
    split
    · rename_i h'
      rw [if_pos (by omega)]
      simp [Nat.testBit_mod_two_pow, h']
    · rename_i h'
      rw [if_neg (by omega), Nat.testBit_div_two_pow, Nat.testBit_div_two_pow]
      congr 1; omega

/-- A field's bits. -/
theorem Bits.get_testBit (b : Bits) (w : Word) (i : Nat) :
    (b.get w).testBit i = (decide (i < b.width) && w.toNat.testBit (i + b.lo)) := by
  unfold Bits.get
  rw [Nat.testBit_mod_two_pow, Nat.testBit_div_two_pow]

/-- A field reads as the value put, cut to its width. -/
theorem Bits.get_put (b : Bits) (v : Nat) (w : Word) (hb : b.inWord = true) : b.get (b.put v w) = v % 2 ^ b.width := by
  refine Nat.eq_of_testBit_eq fun i => ?_
  rw [Bits.get_testBit, Bits.put_testBit b v w _ hb, Nat.testBit_mod_two_pow]
  by_cases hi : i < b.width
  · rw [if_pos (by omega)]; simp [hi]
  · simp [hi]

/-- A field that shares no bit with the one put reads as before. -/
theorem Bits.get_put_apart (b c : Bits) (v : Nat) (w : Word) (hb : b.inWord = true) (hc : b.apart c = true) :
    c.get (b.put v w) = c.get w := by
  simp only [Bits.apart, Bool.or_eq_true, decide_eq_true_eq] at hc
  refine Nat.eq_of_testBit_eq fun i => ?_
  rw [Bits.get_testBit, Bits.get_testBit, Bits.put_testBit b v w _ hb]
  by_cases hi : i < c.width
  · rw [if_neg (by omega)]
  · simp [hi]

/-- A field is below its bound. -/
theorem Bits.get_lt (b : Bits) (w : Word) : b.get w < 2 ^ b.width := Nat.mod_lt _ (Nat.two_pow_pos _)

/-! ### Fields of the hub -/

/-- Two fields are of different words, or of the same word and apart. -/
def Bits.other (b c : Bits) : Bool := b.key != c.key || b.apart c

/-- A field that exists once, after it is written. -/
theorem Hub.rd_wr_self (h : Hub) (f : GField) (v : Nat) (hf : f.bits.inWord = true) :
    (h.wr f v).rd f = v % 2 ^ f.bits.width := by
  simp only [Hub.rd, Hub.wr, Hub.word_setWord_self, Bits.get_put _ _ _ hf]

/-- A field that exists once, after another one is written. -/
theorem Hub.rd_wr_other (h : Hub) (f g : GField) (v : Nat) (hf : f.bits.inWord = true)
    (hg : f.bits.other g.bits = true) : (h.wr f v).rd g = h.rd g := by
  simp only [Hub.rd, Hub.wr, Hub.word_setWord]
  split
  · rename_i hk
    simp only [Bits.other, hk, bne_self_eq_false, Bool.false_or] at hg
    rw [Bits.get_put_apart _ _ _ _ hf hg, hk]
  · rfl

/-- Keys of ports are apart from those of registers that exist once. -/
theorem portKey_ne_hub {p : Fin 16} {w k : Nat} (hk : k < 0x10000) : portKey p w ≠ k := by unfold portKey; omega

/-- Keys of ports differ where port or word differ. -/
theorem portKey_inj {p q : Fin 16} {w x : Nat} (hw : w < 0x1000) (hx : x < 0x1000) :
    portKey p w = portKey q x ↔ p = q ∧ w = x := by
  unfold portKey
  constructor
  · intro h; exact ⟨Fin.ext (by omega), by omega⟩
  · rintro ⟨rfl, rfl⟩; rfl

/-- A field of a port, after it is written. -/
theorem Hub.prd_pwr_self (h : Hub) (p : Fin 16) (f : PField) (v : Nat) (hf : f.bits.inWord = true) :
    (h.pwr p f v).prd p f = v % 2 ^ f.bits.width := by
  simp only [Hub.prd, Hub.pwr, Hub.word_setWord_self, Bits.get_put _ _ _ hf]

/-- A field of a port, after another field of the same port is written. -/
theorem Hub.prd_pwr_other (h : Hub) (p : Fin 16) (f g : PField) (v : Nat) (hf : f.bits.inWord = true)
    (hg : f.bits.other g.bits = true) : (h.pwr p f v).prd p g = h.prd p g := by
  simp only [Hub.prd, Hub.pwr, Hub.word_setWord, portKey]
  split
  · rename_i hk
    have hk' : g.bits.key = f.bits.key := by omega
    simp only [Bits.other, hk', bne_self_eq_false, Bool.false_or] at hg
    rw [Bits.get_put_apart _ _ _ _ hf hg, hk']
  · rfl

/-- A field of a port, after a field of another port is written. -/
theorem Hub.prd_pwr_ne (h : Hub) {p q : Fin 16} (f g : PField) (v : Nat) (hpq : q ≠ p) (hf : f.bits.key < 0x1000)
    (hg : g.bits.key < 0x1000) : (h.pwr p f v).prd q g = h.prd q g := by
  simp only [Hub.prd, Hub.pwr]
  rw [Hub.word_setWord_ne]
  rw [Ne, portKey_inj hg hf]
  exact fun h => hpq h.1

/-- A field of a port, after a field of a register that exists once is written. -/
theorem Hub.prd_wr (h : Hub) (p : Fin 16) (f : GField) (g : PField) (v : Nat) (hf : f.bits.key < 0x10000) :
    (h.wr f v).prd p g = h.prd p g := by
  simp only [Hub.prd, Hub.wr]
  rw [Hub.word_setWord_ne _ _ (portKey_ne_hub hf)]

/-- A field of a register that exists once, after a field of a port is written. -/
theorem Hub.rd_pwr (h : Hub) (p : Fin 16) (f : PField) (g : GField) (v : Nat) (hg : g.bits.key < 0x10000) :
    (h.pwr p f v).rd g = h.rd g := by
  simp only [Hub.rd, Hub.pwr]
  rw [Hub.word_setWord_ne _ _ (Ne.symm (portKey_ne_hub hg))]

/-- Hidden state of ports shows in no field. -/
@[simp] theorem Hub.rd_mapPort (h : Hub) (p : Fin 16) (f : PortH → PortH) (g : GField) :
    (h.mapPort p f).rd g = h.rd g := rfl

/-- Hidden state of ports shows in no field. -/
@[simp] theorem Hub.prd_mapPort (h : Hub) (p q : Fin 16) (f : PortH → PortH) (g : PField) :
    (h.mapPort p f).prd q g = h.prd q g := rfl

/-- The hidden state of the port changed. -/
@[simp] theorem Hub.port_mapPort_self (h : Hub) (p : Fin 16) (f : PortH → PortH) :
    (h.mapPort p f).port p = f (h.port p) := by
  simp [Hub.port, Hub.mapPort]

/-- The hidden state of every other port. -/
theorem Hub.port_mapPort_ne (h : Hub) {p q : Fin 16} (f : PortH → PortH) (hpq : q ≠ p) :
    (h.mapPort p f).port q = h.port q := by
  have : p.val ≠ q.val := fun h => hpq (Fin.ext h.symm)
  simp [Hub.port, Hub.mapPort, this]

end Sys2Proof.Machine
end

