-- ==== Sys2Proof/Laws/Settle.lean ====
section
/-! SUPPORT. What applying a change of the hub can do: nothing but the change where it leaves nothing to work off, and to
an engine nothing but release it anew. -/

namespace Sys2Proof.Machine

open Sys2Proof.Reg

/-! ### A settled hub -/

/-- Going through no port changes nothing. -/
theorem Hub.each_nil {α : Type} (f : α → Hub → Hub) (h : Hub) : h.each [] f = h := rfl

/-- The parts of `Hub.settled`. -/
theorem Hub.settled_parts {h : Hub} (hs : h.settled = true) :
    h.overruns = 0 ∧ h.safeDue = [] ∧ h.lostFeeds = [] ∧ h.alertsDue = [] ∧ (h.freed || h.entryFreed) = false ∧
      h.resets = [] ∧ (h.rd BIVOUAC_STATUS.phase ≠ 3 ∨ h.prSwapping = true) ∧ h.modeKept = true ∧ h.restarting = false := by
  unfold Hub.settled at hs
  generalize (h.freed || h.entryFreed) = fr at hs ⊢
  simp only [Bool.and_eq_true, beq_iff_eq, List.isEmpty_iff, Bool.not_eq_true', Bool.or_eq_true, bne_iff_ne] at hs
  obtain ⟨⟨⟨⟨⟨⟨⟨⟨h1, h2⟩, h3⟩, h4⟩, h5⟩, h6⟩, h7⟩, h8⟩, h9⟩ := hs
  exact ⟨h1, h2, h3, h4, h5, h6, h7, h8, h9⟩

/-- Nothing to settle. -/
theorem Hub.settle_settled {h : Hub} (n : Nat) (h1 : h.overruns = 0) (h2 : h.safeDue = []) (h3 : h.lostFeeds = [])
    (h4 : h.alertsDue = []) (h5 : (h.freed || h.entryFreed) = false) : h.settle n = h := by
  cases n with
  | zero => rfl
  | succ n => simp only [Hub.settle, h1, h2, h3, h4, h5, ne_eq, not_true_eq_false, Bool.false_eq_true, if_false]

/-- No port to return. -/
theorem Hub.returnNext_idle {h : Hub} (hr : h.rd BIVOUAC_STATUS.phase ≠ 3 ∨ h.prSwapping = true) : h.returnNext = h := by
  unfold Hub.returnNext; rw [if_pos hr]

/-- No port to bring into the power mode. -/
theorem Hub.followMode_kept {h : Hub} (hm : h.modeKept = true) : h.followMode = h := by
  unfold Hub.followMode
  unfold Hub.modeKept at hm
  split
  · rename_i hp
    rw [hp] at hm
    rw [List.filter_eq_nil_iff.mpr, Hub.each_nil]
    intro p hp'
    have := List.all_eq_true.mp hm p hp'
    simpa using this
  · rename_i hp
    rw [hp] at hm
    rw [List.filter_eq_nil_iff.mpr, Hub.each_nil]
    intro p hp'
    have := List.all_eq_true.mp hm p hp'
    simpa using this
  · rfl

/-- A settled hub stays as it is. -/
theorem Hub.finish_settled {h : Hub} (hs : h.settled = true) : h.finish = h := by
  obtain ⟨h1, h2, h3, h4, h5, -, h6, h7, h8⟩ := Hub.settled_parts hs
  unfold Hub.finish
  rw [Hub.settle_settled 200 h1 h2 h3 h4 h5, Hub.returnNext_idle h6, Hub.settle_settled 200 h1 h2 h3 h4 h5,
    Hub.followMode_kept h7]
  unfold Hub.refreshRecords
  rw [h8]
  rfl

/-- A change that leaves the hub settled is all that a command does. -/
theorem applyHub_settled {f : Hub → Hub} {s : State} (hs : (f s.hub).settled = true) :
    applyHub f s = { s with hub := f s.hub } := by
  obtain ⟨-, -, -, -, -, h5, -⟩ := Hub.settled_parts hs
  unfold applyHub
  simp only [Hub.finish_settled hs, h5, List.foldl_nil]
  congr 1
  rw [← h5]

/-- A change that leaves a settled hub as it is does nothing. -/
theorem applyHub_same {f : Hub → Hub} {s : State} (hs : s.hub.settled = true) (hf : f s.hub = s.hub) :
    applyHub f s = s := by
  rw [applyHub_settled (by rw [hf]; exact hs), hf]

/-! ### What keeps a hub settled -/

/-- The registers that `Hub.settled` looks at. -/
def settledKey (k : Nat) : Bool :=
  k == BIVOUAC_STATUS.phase.bits.key || k == FW_STATUS.phase.bits.key ||
    allPorts.any fun p => k == portKey p PORT_STATUS.tc_state.bits.key

/-- Writing any other register keeps it. -/
theorem Hub.settled_setWord (h : Hub) {k : Nat} (v : Word) (hk : settledKey k = false) :
    (h.setWord k v).settled = h.settled := by
  simp only [settledKey, Bool.or_eq_false_iff, beq_eq_false_iff_ne, List.any_eq_false, beq_iff_eq] at hk
  obtain ⟨⟨hb, hf⟩, hp⟩ := hk
  have hr : (h.setWord k v).rd BIVOUAC_STATUS.phase = h.rd BIVOUAC_STATUS.phase := by
    simp only [Hub.rd]; rw [Hub.word_setWord_ne _ _ (Ne.symm hb)]
  have hw : (h.setWord k v).restarting = h.restarting := by
    simp only [Hub.restarting, Hub.rd]; rw [Hub.word_setWord_ne _ _ (Ne.symm hf)]
  have ht : ∀ p, (h.setWord k v).tc p = h.tc p := fun p => by
    simp only [Hub.tc, Hub.prd]
    rw [Hub.word_setWord_ne _ _ (Ne.symm (hp p (by revert p; decide)))]
  have hps : (h.setWord k v).presentPorts = h.presentPorts := rfl
  have hm : (h.setWord k v).modeKept = h.modeKept := by
    simp only [Hub.modeKept, Hub.setWord_power, hps, ht]
  have hsw : (h.setWord k v).prSwapping = h.prSwapping := rfl
  simp only [Hub.settled, hr, hw, hm, hsw, Hub.setWord_overruns, Hub.setWord_safeDue, Hub.setWord_lostFeeds,
    Hub.setWord_alertsDue, Hub.setWord_freed, Hub.setWord_entryFreed, Hub.setWord_resets]

/-- Writing a field of any other register that exists once keeps it. -/
theorem Hub.settled_wr (h : Hub) (f : GField) (v : Nat) (hk : settledKey f.bits.key = false) :
    (h.wr f v).settled = h.settled := Hub.settled_setWord h _ hk

/-- Writing a field of any register of a port but PORT_STATUS keeps it. -/
theorem Hub.settled_pwr (h : Hub) (p : Fin 16) (f : PField) (v : Nat) (hk : settledKey (portKey p f.bits.key) = false) :
    (h.pwr p f v).settled = h.settled := Hub.settled_setWord h _ hk

/-! ### Engines -/

/-- Releases, one after another: each engine is as it was, or released anew. -/
theorem releases_engine (l : List (Fin 18 × Word)) (now : Nat) (es : Vector Engine 18) (e : Fin 18) :
    (l.foldl (fun es r => es.set r.1 (Engine.fresh r.2 now)) es)[e] = es[e] ∨
      ∃ pc, (l.foldl (fun es r => es.set r.1 (Engine.fresh r.2 now)) es)[e] = Engine.fresh pc now := by
  induction l generalizing es with
  | nil => exact .inl rfl
  | cons r l ih =>
    rw [List.foldl_cons]
    rcases ih (es.set r.1 (Engine.fresh r.2 now)) with h | h
    · rw [h]
      by_cases he : r.1 = e
      · subst he; exact .inr ⟨r.2, by simp⟩
      · have : r.1.val ≠ e.val := fun hv => he (Fin.ext hv)
        exact .inl (by simp [this])
    · exact .inr h

/-- To an engine, a change of the hub does nothing but release it anew (R412). -/
theorem applyHub_engine (f : Hub → Hub) (s : State) (e : Fin 18) :
    (applyHub f s).engines[e] = s.engines[e] ∨
      ∃ pc now, (applyHub f s).engines[e] = Engine.fresh pc now := by
  rcases releases_engine (f s.hub).finish.resets (f s.hub).finish.sun.clk s.engines e with h | ⟨pc, h⟩
  · exact .inl h
  · exact .inr ⟨pc, _, h⟩

end Sys2Proof.Machine
end

