-- ==== Sys2Proof/Laws/Engine.lean ====
section
/-! SUPPORT. What each shared operation of the engines can do: issue, trap, load, store, push, pop. -/

namespace Sys2Proof.Machine

open Sys2Proof.Reg

/-! ### Fetch and issue -/

/-- The ECC logic passes a clean word. -/
theorem Hub.eccRead_clean {h : Hub} {a : Nat} (hc : h.cleanWord a = true) (id access : Nat) :
    h.eccRead a id access = (h, false) := by
  simp only [Hub.cleanWord, Bool.and_eq_true, Bool.not_eq_true', Hub.poisoned, Option.isNone_iff_eq_none] at hc
  unfold Hub.eccRead
  rw [if_neg (by rw [hc.1]; exact Bool.false_ne_true), hc.2]

/-- No engine fetches from the ledger. -/
theorem fetchAddr_not_ledger {e : Fin 18} {pc : Word} {a : Nat} (ha : fetchAddr e pc = some a) :
    (decide (0x22000000 ≤ a) && decide (a < 0x22004000)) = false := by
  unfold fetchAddr at ha
  dsimp only at ha
  split at ha
  · cases ha
  · split at ha
    · split at ha
      · cases ha; rename_i p _ _; have := p.isLt; simp only [Bool.and_eq_false_iff, decide_eq_false_iff_not]; omega
      · cases ha
    · split at ha
      · cases ha; simp only [Bool.and_eq_false_iff, decide_eq_false_iff_not]; omega
      · cases ha

/-- The fetch of an engine that stands at an instruction changes nothing and traps on nothing. -/
theorem fetch_clean {e : Fin 18} {s : State} {a : Nat} (ha : fetchAddr e s.engines[e].pc = some a)
    (hc : s.hub.cleanWord a = true) : fetch e s = (s, none) := by
  unfold fetch
  simp only [ha, hc, if_true]

/-- An engine that issues comes past its wait and its fetch as it stands. -/
theorem canIssue_parts {e : Fin 18} {s : State} (h : canIssue e s = true) :
    s.hub.runsCode e = true ∧ wakes e s = (true, s) ∧ fetch e s = (s, none) := by
  simp only [canIssue, Bool.and_eq_true, Bool.not_eq_true'] at h
  obtain ⟨⟨hr, hw⟩, hf⟩ := h
  refine ⟨hr, by unfold wakes; rw [hw]; rfl, ?_⟩
  split at hf
  · rename_i a ha; exact fetch_clean ha hf
  · cases hf

/-- An instruction that is issued runs its body on the state as it stands. -/
theorem issue_atInstr {e : Fin 18} {i : Instr} {s : State} (h : atInstr e i s = true) (body : Word → State → State) :
    issue e i body s = body ((encodeBurjo i).getD 0) s := by
  simp only [atInstr, Bool.and_eq_true] at h
  obtain ⟨hc, hd⟩ := h
  obtain ⟨hr, hw, hf⟩ := canIssue_parts hc
  unfold issue
  rw [if_pos hr, hw]
  simp only [hf, if_true]
  rw [if_pos hd]

/-- A word that no instruction has takes the trap UNDEF (R414). -/
theorem issue_undef {e : Fin 18} {i : Instr} {s : State} (h : canIssue e s = true)
    (hd : (decodeBurjo e ((encodeBurjo i).getD 0)).isSome = false) (body : Word → State → State) :
    issue e i body s = trap e { code := trapUndef, insn := (encodeBurjo i).getD 0, addr := 0 } s := by
  obtain ⟨hr, hw, hf⟩ := canIssue_parts h
  unfold issue
  rw [if_pos hr, hw]
  simp only [hf, if_true]
  rw [if_neg (by rw [hd]; exact Bool.false_ne_true)]

/-! ### Registers -/

/-- g0 reads as zero (R412). -/
@[simp] theorem Engine.reg_zero (x : Engine) : x.reg 0 = 0 := rfl

/-- A write of g0 is discarded (R412). -/
@[simp] theorem Engine.setReg_zero (x : Engine) (v : Word) : x.setReg 0 v = x := rfl

/-- A register after a write. -/
theorem Engine.reg_setReg (x : Engine) (r q : Fin 32) (v : Word) :
    (x.setReg r v).reg q = if q = r ∧ r ≠ 0 then v else x.reg q := by
  unfold Engine.setReg Engine.reg
  by_cases hr : r = 0
  · simp [hr]
  · by_cases hq : q = r
    · subst hq; simp [hr]
    · have : r.val ≠ q.val := fun h => hq (Fin.ext h.symm)
      by_cases hq0 : q = 0
      · subst hq0; simp [Ne.symm hr]
      · simp [hr, hq, hq0, this]

/-- A write of a register changes nothing else of the engine. -/
theorem Engine.setReg_frame (x : Engine) (r : Fin 32) (v : Word) :
    (x.setReg r v).pc = x.pc ∧ (x.setReg r v).ctl = x.ctl ∧ (x.setReg r v).rstack = x.rstack ∧
      (x.setReg r v).waiting = x.waiting ∧ (x.setReg r v).timeBase = x.timeBase ∧ (x.setReg r v).traps = x.traps := by
  unfold Engine.setReg; split <;> exact ⟨rfl, rfl, rfl, rfl, rfl, rfl⟩

/-- The engine changed. -/
@[simp] theorem setEngine_self (e : Fin 18) (f : Engine → Engine) (s : State) :
    (setEngine e f s).engines[e] = f s.engines[e] := by simp [setEngine]

/-- Every other engine. -/
theorem setEngine_ne {e d : Fin 18} (f : Engine → Engine) (s : State) (hd : d ≠ e) :
    (setEngine e f s).engines[d] = s.engines[d] := by
  have : e.val ≠ d.val := fun h => hd (Fin.ext h.symm)
  simp [setEngine, this]

/-! ### The queue -/

/-- The queue does not follow from what a command finds pending. -/
@[simp] theorem pending_queue (e : Fin 18) (s : State) : (pending e s).2.pending = s.pending := by
  unfold Sys2Proof.Machine.pending; split <;> rfl

@[simp] theorem readCtl_queue (e : Fin 18) (n : Fin 16) (s : State) : (readCtl e n s).2.pending = s.pending := by
  unfold readCtl; split <;> first | rfl | exact pending_queue e s

@[simp] theorem countTrap_queue (e : Fin 18) (s : State) : (countTrap e s).pending = s.pending := by
  unfold countTrap; split
  · rfl
  · simp only; split <;> rfl

@[simp] theorem trap_queue (e : Fin 18) (t : Trap) (s : State) : (trap e t s).pending = s.pending := by
  unfold trap; simp only; split <;> split <;> simp

@[simp] theorem fetch_queue (e : Fin 18) (s : State) : (fetch e s).1.pending = s.pending := by
  unfold fetch; simp only; split
  · rfl
  · split <;> rfl

@[simp] theorem wakes_queue (e : Fin 18) (s : State) : (wakes e s).2.pending = s.pending := by
  unfold wakes; split
  · simp only; split <;> simp
  · rfl

theorem issue_queue (e : Fin 18) (i : Instr) {body : Word → State → State}
    (hb : ∀ w s, (body w s).pending = s.pending) (s : State) : (issue e i body s).pending = s.pending := by
  unfold issue; split
  · simp only; split
    · split
      · simp
      · split <;> simp [hb]
    · simp
  · rfl

@[simp] theorem retire_queue (e : Fin 18) (f : Engine → Engine) (s : State) : (retire e f s).pending = s.pending := rfl

@[simp] theorem alu_queue (e : Fin 18) (rd : Fin 32) (v : Word) (s : State) : (alu e rd v s).pending = s.pending := rfl

@[simp] theorem busLoad_queue (e : Fin 18) (a : Word) (n : Nat) (w : Word) (s : State) :
    (busLoad e a n w s).1.pending = s.pending := by
  unfold busLoad; simp only; split
  · simp
  · split
    · rfl
    · split <;> rfl

@[simp] theorem busStore_queue (e : Fin 18) (a v : Word) (n : Nat) (s : State) :
    (busStore e a v n s).1.pending = s.pending := by
  unfold busStore; simp only; split <;> rfl

@[simp] theorem load_queue (e : Fin 18) (rd ra : Fin 32) (off : BitVec 16) (n : Nat) (sg : Bool) (w : Word) (s : State) :
    (load e rd ra off n sg w s).pending = s.pending := by
  unfold load; simp only; split
  · simp
  · split <;> simp

@[simp] theorem store_queue (e : Fin 18) (rd ra : Fin 32) (off : BitVec 16) (n : Nat) (w : Word) (s : State) :
    (store e rd ra off n w s).pending = s.pending := by
  unfold store; simp only; split
  · simp
  · split <;> simp

@[simp] theorem pushWords_queue (e : Fin 18) (w : Word) (l : List (Fin 32)) (a : Word) (s : State) :
    (pushWords e w l a s).1.pending = s.pending := by
  induction l generalizing a s with
  | nil => rfl
  | cons r l ih => unfold pushWords; simp only; split <;> simp [ih]

@[simp] theorem popWords_queue (e : Fin 18) (w : Word) (l : List (Fin 32)) (a : Word) (s : State) :
    (popWords e w l a s).1.pending = s.pending := by
  induction l generalizing a s with
  | nil => rfl
  | cons r l ih =>
    unfold popWords; simp only; split
    · simp
    · split <;> simp [ih]

@[simp] theorem push_queue (e : Fin 18) (l : List (Fin 32)) (w : Word) (s : State) :
    (push e l w s).pending = s.pending := by
  unfold push; simp only; split
  · simp
  · split <;> simp

@[simp] theorem pop_queue (e : Fin 18) (l : List (Fin 32)) (w : Word) (s : State) :
    (pop e l w s).pending = s.pending := by
  unfold pop; simp only; split
  · simp
  · split <;> simp

@[simp] theorem addDsp_queue (e : Fin 18) (o : BitVec 16) (w : Word) (s : State) :
    (addDsp e o w s).pending = s.pending := by
  unfold addDsp; simp only; split
  · simp
  · split <;> simp

@[simp] theorem callTo_queue (e : Fin 18) (t w : Word) (s : State) : (callTo e t w s).pending = s.pending := by
  unfold callTo; simp only; split <;> simp

@[simp] theorem ret_queue (e : Fin 18) (w : Word) (s : State) : (ret e w s).pending = s.pending := by
  unfold ret; split <;> simp

@[simp] theorem branch_queue (e : Fin 18) (ra rb : Fin 32) (d : BitVec 16) (c : Word → Word → Bool) (s : State) :
    (branch e ra rb d c s).pending = s.pending := by
  unfold branch; split <;> simp

theorem jumpReg_queue (e : Fin 18) (r : Fin 32) (w : Word) {go : Word → State → State}
    (hg : ∀ a s, (go a s).pending = s.pending) (s : State) : (jumpReg e r w go s).pending = s.pending := by
  unfold jumpReg; simp only; split <;> simp [hg]

@[simp] theorem divide_queue (e : Fin 18) (rd ra rb : Fin 32) (f : Word → Word → Word) (w : Word) (s : State) :
    (divide e rd ra rb f w s).pending = s.pending := by
  unfold divide; split <;> simp

end Sys2Proof.Machine
end

