-- ==== Sys2Proof/Laws/Access.lean ====
section
/-! SUPPORT. What a command that changes the hub, and a master's access, can do to the queue and to engines. -/

namespace Sys2Proof.Machine

/-! ### The queue -/

@[simp] theorem onHub_queue (f : Hub → Hub) (s : State) : (onHub f s).pending = s.pending := by
  unfold onHub; split <;> rfl

@[simp] theorem onPort_queue (p : Fin 16) (f : Hub → Hub) (s : State) : (onPort p f s).pending = s.pending :=
  onHub_queue _ s

@[simp] theorem busWrite_queue (m : Master) (a : Word) (n : Nat) (v : Word) (s : State) :
    (busWrite m a n v s).pending = s.pending := by
  unfold busWrite; split
  · split <;> rfl
  · rfl

@[simp] theorem busRead_queue (m : Master) (a : Word) (n : Nat) (s : State) : (busRead m a n s).pending = s.pending := by
  unfold busRead; split
  · split <;> rfl
  · rfl

@[simp] theorem writeReg_queue (m : Master) (k : Nat) (v : Word) (s : State) : (writeReg m k v s).pending = s.pending :=
  busWrite_queue ..

@[simp] theorem writePort_queue (m : Master) (w : Nat) (v : Word) (s : State) : (writePort m w v s).pending = s.pending :=
  busWrite_queue ..

@[simp] theorem writeClaim_queue (p : Fin 16) (w : Nat) (v : Word) (s : State) :
    (writeClaim p w v s).pending = s.pending := busWrite_queue ..

end Sys2Proof.Machine
end

