-- ==== Sys2Proof/Laws/Commands.lean ====
section
/-! SUPPORT. How a command that acts on the hub ends: what `onHub`, `onPort` and a running timer make of an effect, and
where a master's write of a register leads. -/

namespace Sys2Proof.Machine

open Sys2Proof.Reg

/-- A change of the hub ends at the hub it leads to. -/
theorem applyHub_ends {f : Hub → Hub} {s : State} {h : Hub} (hf : f s.hub = h) : applyHub f s = ends h s := by
  subst hf; rfl

/-- A command on a hub that is up. -/
theorem onHub_ends {f : Hub → Hub} {s : State} {h : Hub} (hu : s.hub.up = true) (hf : f s.hub = h) :
    onHub f s = ends h s := by
  unfold onHub; rw [if_pos hu]; exact applyHub_ends hf

/-- A command on a present port of a hub that is up. -/
theorem onPort_ends {p : Fin 16} {f : Hub → Hub} {s : State} {h : Hub} (hu : s.hub.up = true)
    (hp : s.hub.present p = true) (hf : f s.hub = h) : onPort p f s = ends h s := by
  refine onHub_ends hu ?_
  rw [if_pos hp]; exact hf

/-- The expiry of a timer that runs. -/
theorem Hub.expire_runs {p : Fin 16} {t : Tmr} {f : Hub → Hub} {h : Hub} (hp : h.present p = true)
    (hr : h.runs p t = true) : h.expire p t f = f (h.stop p t) := by
  unfold Hub.expire; rw [if_pos (by rw [hp, hr]; rfl)]

/-- A command on a hub that is held in reset or in Ship mode does nothing. -/
theorem onHub_down {f : Hub → Hub} {s : State} (hu : s.hub.up = false) : onHub f s = s := by
  unfold onHub; rw [if_neg (by rw [hu]; exact Bool.false_ne_true)]

/-- A Denoc command that is next in order acts on the hub that counts it (R554). -/
theorem Hub.command_inOrder {t : Nat} {seq : BitVec 8} {f : BitVec 8 → Hub → Hub} {h : Hub}
    (ho : h.inOrder seq = true) : Hub.command t seq f h = f (BitVec.ofNat 8 t) (h.counted seq) := by
  simp only [Hub.inOrder, Bool.and_eq_true, Bool.or_eq_true, beq_iff_eq, Option.isNone_iff_eq_none] at ho
  obtain ⟨⟨hs, hj⟩, hl⟩ := ho
  have jobs : h.heard.jobSeq = none := hj
  have last : h.heard.fw.lastSeq = h.fw.lastSeq := rfl
  unfold Hub.command
  rw [if_neg (by rw [hs]; decide)]
  dsimp only
  rw [jobs, last]
  rcases hl with hl | hl <;> rw [hl]
  · rfl
  · dsimp only
    rw [if_neg (by bv_omega), if_pos (by bv_omega)]
    rfl

/-- A settled hub is where its command ends. -/
theorem ends_settled {h : Hub} {s : State} (hs : h.settled = true) : ends h s = { s with hub := h } :=
  applyHub_settled (f := fun _ => h) hs

end Sys2Proof.Machine
end

