-- ==== Sys2Proof/Laws/Effects.lean ====
section
/-! SUPPORT. What each shared operation of the instructions does, in the terms that claims use: a result, a jump, a trap. -/

namespace Sys2Proof.Machine

open Sys2Proof.Reg

/-- A change of one engine leaves everything else. -/
theorem setEngine_ranOn (e : Fin 18) (f : Engine → Engine) (s : State) : ranOn e s (setEngine e f s) :=
  ⟨rfl, rfl, fun _ hd => setEngine_ne f s hd⟩

/-- Two changes of one engine leave everything else. -/
theorem ranOn_trans {e : Fin 18} {s t u : State} (h : ranOn e s t) (g : ranOn e t u) : ranOn e s u :=
  ⟨g.1.trans h.1, g.2.1.trans h.2.1, fun d hd => (g.2.2 d hd).trans (h.2.2 d hd)⟩

/-- A result. -/
theorem alu_wroteReg (e : Fin 18) (rd : Fin 32) (v : Word) (s : State) : wroteReg e rd v s (alu e rd v s) := by
  have hf := Engine.setReg_frame s.engines[e] rd v
  refine ⟨setEngine_ranOn .., ?_, fun r => ?_, ?_, ?_, ?_, ?_, ?_⟩ <;>
    simp only [alu, retire, setEngine_self, Engine.advance]
  · rw [hf.1]
  · exact Engine.reg_setReg ..
  · exact hf.2.1
  · exact hf.2.2.1
  · exact hf.2.2.2.1
  · exact hf.2.2.2.2.1
  · exact hf.2.2.2.2.2

/-- A jump. -/
theorem setEngine_wentTo (e : Fin 18) (pc : Word) (l : List Word) (s : State) :
    wentTo e pc l s (setEngine e (fun x => { x with pc := pc, rstack := l }) s) := by
  refine ⟨setEngine_ranOn .., ?_, ?_, fun r => ?_, ?_, ?_, ?_, ?_⟩ <;> simp only [setEngine_self] <;> rfl

/-- A change of an engine by what it holds. -/
theorem setEngine_congr {e : Fin 18} {f g : Engine → Engine} {s : State} (h : f s.engines[e] = g s.engines[e]) :
    setEngine e f s = setEngine e g s := by unfold setEngine; rw [h]

/-- The next instruction. -/
theorem retire_wentTo (e : Fin 18) (s : State) :
    wentTo e (s.engines[e].pc + 4) s.engines[e].rstack s (retire e id s) := by
  have h : retire e id s =
      setEngine e (fun x => { x with pc := s.engines[e].pc + 4, rstack := s.engines[e].rstack }) s :=
    setEngine_congr rfl
  rw [h]; exact setEngine_wentTo ..

/-- STATUS after trap entry. -/
theorem Engine.enter_status (x : Engine) (t : Trap) :
    (x.enter t).ctl[(2 : Fin 16)] = 4 ||| if x.flag 2 0 then (2 : Word) else 0 := by
  simp [Engine.enter, ctlStatus]

/-- The flags of STATUS after trap entry. -/
theorem Engine.enter_flags (x : Engine) (t : Trap) :
    (x.enter t).flag 2 2 = true ∧ (x.enter t).flag 2 0 = false ∧ (x.enter t).flag 2 1 = x.flag 2 0 := by
  have hst : ∀ b : Bool, ((4 ||| if b then (2 : Word) else 0).getLsbD 2 = true) ∧
      ((4 ||| if b then (2 : Word) else 0).getLsbD 0 = false) ∧ ((4 ||| if b then (2 : Word) else 0).getLsbD 1 = b) := by
    decide
  unfold Engine.flag
  rw [Engine.enter_status]
  exact hst _

/-- The other control registers after trap entry. -/
theorem Engine.enter_ctl (x : Engine) (t : Trap) :
    (x.enter t).ctl[ctlTrapPc] = x.pc ∧ (x.enter t).ctl[ctlTrapInsn] = t.insn ∧
      (x.enter t).ctl[ctlTrapAddr] = t.addr ∧ (x.enter t).ctl[ctlTrapCause] = t.cause ∧
      ∀ n : Fin 16, n.val ≠ 2 → (n.val < 4 ∨ 7 < n.val) → (x.enter t).ctl[n] = x.ctl[n] := by
  unfold Engine.enter
  refine ⟨?_, ?_, ?_, ?_, fun n h2 h => ?_⟩
  · simp [ctlTrapPc, ctlTrapInsn, ctlTrapCause, ctlTrapAddr, ctlStatus]
  · simp [ctlTrapInsn, ctlTrapCause, ctlTrapAddr, ctlStatus]
  · simp [ctlTrapAddr, ctlStatus]
  · simp [ctlTrapCause, ctlTrapAddr, ctlStatus]
  · have : ∀ k : Nat, k = 4 ∨ k = 5 ∨ k = 6 ∨ k = 7 ∨ k = 2 → k ≠ n.val := by intro k hk; omega
    simp [this]

/-- Trap entry, on the engine itself. -/
theorem enter_tookTrap (e : Fin 18) (t : Trap) (l : List Nat) (s : State) :
    tookTrap e t.code (t.poison.toNat * 0x100 + t.ovf.toNat * 0x200 + t.write.toNat * 0x400) t.insn t.addr s
      (setEngine e (fun x => { x.enter t with traps := l }) s) := by
  have hc := s.engines[e].enter_ctl t
  have hf := s.engines[e].enter_flags t
  unfold tookTrap
  rw [setEngine_self]
  refine ⟨hc.1, hc.2.1, hc.2.2.1, ?_, hf.1, hf.2.1, hf.2.2, rfl, hc.2.2.2.2, fun r => rfl, rfl, rfl⟩
  refine hc.2.2.2.1.trans ?_
  unfold Trap.cause
  congr 1; omega

/-- What a trap does once its source has latched. -/
def enterOrHalt (e : Fin 18) (t : Trap) (s : State) : State :=
  if s.engines[e].flag 2 2 then applyHub (Hub.failEngine e) s else countTrap e (setEngine e (Engine.enter t) s)

/-- A synchronous trap that the engine can take: entry, and on a port engine its count. -/
theorem enterOrHalt_tookTrap {e : Fin 18} {t : Trap} {s : State} (h : canTrap e s = true) :
    ranOn e s (enterOrHalt e t s) ∧
      tookTrap e t.code (t.poison.toNat * 0x100 + t.ovf.toNat * 0x200 + t.write.toNat * 0x400) t.insn t.addr s
        (enterOrHalt e t s) := by
  simp only [canTrap, Bool.and_eq_true, Bool.not_eq_true', Bool.or_eq_true, decide_eq_true_eq] at h
  obtain ⟨hf, hs⟩ := h
  have hx : ∃ l, enterOrHalt e t s = setEngine e (fun x => { x.enter t with traps := l }) s := by
    unfold enterOrHalt
    rw [if_neg (by rw [hf]; exact Bool.false_ne_true)]
    unfold countTrap
    by_cases hsup : isSup e = true
    · rw [if_pos hsup]
      exact ⟨s.engines[e].traps, setEngine_congr rfl⟩
    · rw [if_neg hsup]
      have hn := hs.resolve_left hsup
      have ht : (setEngine e (Engine.enter t) s).engines[e].traps = s.engines[e].traps := by rw [setEngine_self]; rfl
      refine ⟨recentTraps s.hub.sun.clk s.engines[e].traps, ?_⟩
      dsimp only
      rw [ht]
      rw [if_neg (by change ¬(s.hub.rd PE_CFG.storm_max < _); exact Nat.not_lt.mpr hn)]
      simp [setEngine]
  obtain ⟨l, hx⟩ := hx
  rw [hx]
  exact ⟨setEngine_ranOn .., enter_tookTrap ..⟩

/-- A synchronous trap that latches no source of its own. -/
theorem trap_plain {e : Fin 18} {s : State} (h : canTrap e s = true) {code : Nat} (hc : code ≠ trapDstack)
    (hr : code ≠ trapRstack) (w a : Word) (po ov wr : Bool) :
    ranOn e s (trap e ⟨code, w, a, po, ov, wr⟩ s) ∧
      tookTrap e code (po.toNat * 0x100 + ov.toNat * 0x200 + wr.toNat * 0x400) w a s
        (trap e ⟨code, w, a, po, ov, wr⟩ s) := by
  have hx : trap e ⟨code, w, a, po, ov, wr⟩ s = enterOrHalt e ⟨code, w, a, po, ov, wr⟩ s := by
    unfold trap
    simp only [if_neg (fun x : code = trapDstack ∨ code = trapRstack => x.elim hc hr)]
    rfl
  rw [hx]
  exact enterOrHalt_tookTrap h

/-- A synchronous trap while one is in progress halts the engine. -/
theorem trap_double {e : Fin 18} {s : State} (h : s.engines[e].flag 2 2 = true) {code : Nat} (hc : code ≠ trapDstack)
    (hr : code ≠ trapRstack) (w a : Word) (po ov wr : Bool) :
    trap e ⟨code, w, a, po, ov, wr⟩ s = applyHub (Hub.failEngine e) s := by
  unfold trap
  simp only [if_neg (fun x : code = trapDstack ∨ code = trapRstack => x.elim hc hr)]
  rw [if_pos h]

/-- A trap of a stack is its source's latch, then the trap. -/
theorem trap_stack {e : Fin 18} {s : State} {code : Nat} (hc : code = trapDstack ∨ code = trapRstack)
    (hs : (s.hub.latch 26 ⟨masterId (engineMaster e), 7, s.engines[e].pc⟩).settled = true)
    (h : canTrap e { s with hub := s.hub.latch 26 ⟨masterId (engineMaster e), 7, s.engines[e].pc⟩ } = true)
    (w a : Word) (po ov wr : Bool) :
    ranOn e { s with hub := s.hub.latch 26 ⟨masterId (engineMaster e), 7, s.engines[e].pc⟩ }
        (trap e ⟨code, w, a, po, ov, wr⟩ s) ∧
      tookTrap e code (po.toNat * 0x100 + ov.toNat * 0x200 + wr.toNat * 0x400) w a
        { s with hub := s.hub.latch 26 ⟨masterId (engineMaster e), 7, s.engines[e].pc⟩ }
        (trap e ⟨code, w, a, po, ov, wr⟩ s) := by
  have hx : trap e ⟨code, w, a, po, ov, wr⟩ s = enterOrHalt e ⟨code, w, a, po, ov, wr⟩
      { s with hub := s.hub.latch 26 ⟨masterId (engineMaster e), 7, s.engines[e].pc⟩ } := by
    unfold trap
    simp only [if_pos hc]
    rw [applyHub_settled hs]
    rfl
  rw [hx]
  exact enterOrHalt_tookTrap h

end Sys2Proof.Machine
end

