-- ==== Sys2Proof/Laws/EngineOk.lean ====
section
/-! SUPPORT. That the shared operations of the engines keep what holds of an engine at all times (`engineOk`). -/

namespace Sys2Proof.Machine

/-- The parts of `engineOk`. -/
theorem engineOk_iff (e : Fin 18) (x : Engine) :
    engineOk e x = true ↔
      x.rstack.length ≤ stackSize e ∧ x.regs[0] = 0 ∧ ∀ n : Fin 16, x.ctl[n] &&& ~~~ctlBits n.val = 0 := by
  simp only [engineOk, Bool.and_eq_true, decide_eq_true_eq, beq_iff_eq, List.all_eq_true, List.mem_finRange,
    forall_const, and_assoc]

/-- The engines are as they must be: each one. -/
theorem enginesOk_iff (s : State) : s.enginesOk = true ↔ ∀ e : Fin 18, engineOk e s.engines[e] = true := by
  simp only [State.enginesOk, List.all_eq_true, List.mem_finRange, forall_const]

/-! ### One engine -/

theorem engineOk_fresh (e : Fin 18) (pc : Word) (now : Nat) : engineOk e (Engine.fresh pc now) = true := by
  rw [engineOk_iff]
  refine ⟨Nat.zero_le _, by simp [Engine.fresh], fun n => by simp [Engine.fresh]⟩

theorem engineOk_setReg {e : Fin 18} {x : Engine} (r : Fin 32) (v : Word) (h : engineOk e x = true) :
    engineOk e (x.setReg r v) = true := by
  rw [engineOk_iff] at h ⊢
  obtain ⟨h1, h2, h3⟩ := h
  have hf := Engine.setReg_frame x r v
  rw [hf.2.2.1, hf.2.1]
  refine ⟨h1, ?_, h3⟩
  unfold Engine.setReg
  split
  · exact h2
  · rename_i hr
    have : r.val ≠ 0 := fun h => hr (Fin.ext h)
    simp [this, h2]

theorem engineOk_pc {e : Fin 18} {x : Engine} (pc : Word) (h : engineOk e x = true) :
    engineOk e { x with pc := pc } = true := h

theorem engineOk_advance {e : Fin 18} {x : Engine} (h : engineOk e x = true) : engineOk e x.advance = true := h

theorem engineOk_waiting {e : Fin 18} {x : Engine} (b : Bool) (h : engineOk e x = true) :
    engineOk e { x with waiting := b } = true := h

theorem engineOk_traps {e : Fin 18} {x : Engine} (l : List Nat) (h : engineOk e x = true) :
    engineOk e { x with traps := l } = true := h

/-- Storing a word that has only the register's bits keeps it. -/
theorem engineOk_setCtl {e : Fin 18} {x : Engine} (n : Nat) (hn : n < 16) {v : Word} (hv : v &&& ~~~ctlBits n = 0)
    (h : engineOk e x = true) : engineOk e { x with ctl := x.ctl.set n v hn } = true := by
  rw [engineOk_iff] at h ⊢
  refine ⟨h.1, h.2.1, fun m => ?_⟩
  by_cases hm : n = m.val
  · subst hm; simpa using hv
  · simpa [hm] using h.2.2 m

theorem engineOk_writeCtl {e : Fin 18} {x : Engine} (n : Fin 16) (v : Word) (h : engineOk e x = true) :
    engineOk e (x.writeCtl n v) = true := by
  unfold Engine.writeCtl
  split
  · rw [engineOk_iff] at h ⊢
    exact ⟨by simp only [List.length_drop]; omega, h.2⟩
  · refine engineOk_setCtl n.val n.isLt ?_ h
    have := ((engineOk_iff e x).mp h).2.2 n
    ext i hi
    have hb := congrArg (fun w : Word => w[i]) this
    simp at hb ⊢
    intro h1
    rcases h1 with h1 | h1
    · exact hb h1.1
    · exact h1.2

theorem engineOk_enter {e : Fin 18} {x : Engine} (t : Trap) (ht : t.code ≤ 15) (h : engineOk e x = true) :
    engineOk e (x.enter t) = true := by
  have hc : t.cause &&& ~~~ctlBits 6 = 0 := by
    have hlt : t.code + t.poison.toNat * 0x100 + t.ovf.toNat * 0x200 + t.write.toNat * 0x400 < 2 ^ 32 := by
      have := Bool.toNat_le t.poison; have := Bool.toNat_le t.ovf; have := Bool.toNat_le t.write; omega
    have hall : ∀ c < 16, ∀ p o w : Bool,
        BitVec.ofNat 32 (c + p.toNat * 0x100 + o.toNat * 0x200 + w.toNat * 0x400) &&& ~~~ctlBits 6 = 0 := by
      decide +kernel
    exact hall t.code (by omega) t.poison t.ovf t.write
  have ones : ∀ v : Word, v &&& ~~~(0xFFFFFFFF : Word) = 0 := fun v => BitVec.and_zero
  have hs : ∀ b : Bool, ((4 : Word) ||| (if b then 2 else 0)) &&& ~~~ctlBits 2 = 0 := by decide
  have h1 := engineOk_setCtl (e := e) (x := x) ctlTrapPc (by decide) (v := x.pc) (ones _) h
  have h2 := engineOk_setCtl (e := e) ctlTrapInsn (by decide) (v := t.insn) (ones _) h1
  have h3 := engineOk_setCtl (e := e) ctlTrapCause (by decide) (v := t.cause) hc h2
  have h4 := engineOk_setCtl (e := e) ctlTrapAddr (by decide) (v := t.addr) (ones _) h3
  have h5 := engineOk_setCtl (e := e) ctlStatus (by decide) (v := 4 ||| (if x.flag 2 0 then 2 else 0)) (hs _) h4
  exact engineOk_waiting false (engineOk_pc _ h5)

theorem engineOk_leave {e : Fin 18} {x : Engine} (h : engineOk e x = true) : engineOk e x.leave = true := by
  have hs : ∀ (w : Word) (b : Bool), ((w &&& 2) ||| (if b then (1 : Word) else 0)) &&& ~~~ctlBits 2 = 0 := by
    intro w b
    have h1 : (w &&& 2) &&& ~~~ctlBits 2 = 0 := by
      rw [BitVec.and_assoc, show (2 : Word) &&& ~~~ctlBits 2 = 0 by decide]
      exact BitVec.and_zero
    have h2 : (if b then (1 : Word) else 0) &&& ~~~ctlBits 2 = 0 := by cases b <;> decide
    rw [BitVec.and_comm, BitVec.and_or_distrib_left, BitVec.and_comm, h1, BitVec.and_comm, h2]
    rfl
  have h1 := engineOk_setCtl (e := e) ctlStatus (by decide)
    (v := (x.ctl[ctlStatus] &&& 2) ||| (if x.flag 2 1 then (1 : Word) else 0)) (hs _ _) h
  have h2 := engineOk_pc x.ctl[ctlTrapPc] h1
  exact h2

/-! ### All engines -/

/-- A trap code is one that TRAP_CAUSE can hold. -/
theorem small {n : Nat} (h : Nat.ble n 15 = true) : n ≤ 15 := Nat.le_of_ble_eq_true h

theorem setEngine_ok {e : Fin 18} {f : Engine → Engine} {s : State}
    (hf : engineOk e s.engines[e] = true → engineOk e (f s.engines[e]) = true) (h : s.enginesOk = true) :
    (setEngine e f s).enginesOk = true := by
  rw [enginesOk_iff] at h ⊢
  intro d
  by_cases hd : d = e
  · subst hd; rw [setEngine_self]; exact hf (h d)
  · rw [setEngine_ne f s hd]; exact h d

theorem applyHub_ok (f : Hub → Hub) {s : State} (h : s.enginesOk = true) : (applyHub f s).enginesOk = true := by
  rw [enginesOk_iff] at h ⊢
  intro d
  rcases applyHub_engine f s d with hd | ⟨pc, now, hd⟩
  · rw [hd]; exact h d
  · rw [hd]; exact engineOk_fresh d pc now

theorem onHub_ok (f : Hub → Hub) {s : State} (h : s.enginesOk = true) : (onHub f s).enginesOk = true := by
  unfold onHub; split
  · exact applyHub_ok f h
  · exact h

theorem onPort_ok (p : Fin 16) (f : Hub → Hub) {s : State} (h : s.enginesOk = true) :
    (onPort p f s).enginesOk = true := onHub_ok _ h

theorem pending_ok (e : Fin 18) {s : State} (h : s.enginesOk = true) : (pending e s).2.enginesOk = true := by
  unfold Sys2Proof.Machine.pending; split <;> exact h

theorem readCtl_ok (e : Fin 18) (n : Fin 16) {s : State} (h : s.enginesOk = true) :
    (readCtl e n s).2.enginesOk = true := by
  unfold readCtl; split <;> first | exact h | exact pending_ok e h

theorem countTrap_ok (e : Fin 18) {s : State} (h : s.enginesOk = true) : (countTrap e s).enginesOk = true := by
  unfold countTrap; split
  · exact h
  · have h1 := setEngine_ok (e := e)
      (f := fun x => { x with traps := recentTraps s.hub.sun.clk s.engines[e].traps }) (engineOk_traps _) h
    dsimp only; split
    · exact applyHub_ok _ h1
    · exact h1

theorem trap_ok (e : Fin 18) {t : Trap} (ht : t.code ≤ 15) {s : State} (h : s.enginesOk = true) :
    (trap e t s).enginesOk = true := by
  unfold trap; dsimp only
  have h1 : ∀ {s : State}, s.enginesOk = true →
      (if s.engines[e].flag 2 2 then applyHub (Hub.failEngine e) s
        else countTrap e (setEngine e (Engine.enter t) s)).enginesOk = true := by
    intro s h; split
    · exact applyHub_ok _ h
    · exact countTrap_ok e (setEngine_ok (engineOk_enter t ht) h)
  split
  · exact h1 (applyHub_ok _ h)
  · exact h1 h

theorem fetch_ok (e : Fin 18) {s : State} (h : s.enginesOk = true) : (fetch e s).1.enginesOk = true := by
  rw [fetch]
  cases hf : fetchAddr e s.engines[e].pc with
  | none => exact applyHub_ok (Hub.badAccess (engineMaster e) 2 s.engines[e].pc) h
  | some a =>
    by_cases hc : s.hub.cleanWord a = true
    · simp only [hc, if_true]; exact h
    · simp only [hc]; exact applyHub_ok (fun _ => (s.hub.readWord a (masterId (engineMaster e)) 2).1) h

theorem fetch_trap_code {e : Fin 18} {s : State} {t : Trap} (h : (fetch e s).2 = some t) : t.code ≤ 15 := by
  have hc : t.code = trapFetch := by
    rw [fetch] at h
    cases hf : fetchAddr e s.engines[e].pc with
    | none =>
      rw [hf] at h
      exact (congrArg Trap.code (Option.some.inj h)).symm
    | some a =>
      rw [hf] at h
      by_cases hc : s.hub.cleanWord a = true
      · simp only [hc, if_true, reduceCtorEq] at h
      · simp only [hc] at h
        by_cases hr : (s.hub.readWord a (masterId (engineMaster e)) 2).2 = true
        · simp only [hr, if_true] at h
          exact (congrArg Trap.code (Option.some.inj h)).symm
        · simp [hr] at h
  rw [hc]; decide

theorem wakes_ok (e : Fin 18) {s : State} (h : s.enginesOk = true) : (wakes e s).2.enginesOk = true := by
  unfold wakes; split
  · dsimp only; split
    · exact setEngine_ok (engineOk_waiting false) (pending_ok e h)
    · exact pending_ok e h
  · exact h

theorem issue_ok (e : Fin 18) (i : Instr) {body : Word → State → State} {s : State}
    (hb : ∀ w s, s.enginesOk = true → (body w s).enginesOk = true) (h : s.enginesOk = true) :
    (issue e i body s).enginesOk = true := by
  unfold issue; split
  · dsimp only; split
    · have h1 := fetch_ok e (wakes_ok e h)
      split
      · rename_i t ht; exact trap_ok e (fetch_trap_code ht) h1
      · split
        · exact hb _ _ h1
        · exact trap_ok e (small rfl) h1
    · exact wakes_ok e h
  · exact h

theorem retire_ok {e : Fin 18} {f : Engine → Engine} {s : State}
    (hf : engineOk e s.engines[e] = true → engineOk e (f s.engines[e]) = true) (h : s.enginesOk = true) :
    (retire e f s).enginesOk = true := setEngine_ok (fun hx => engineOk_advance (hf hx)) h

theorem alu_ok (e : Fin 18) (rd : Fin 32) (v : Word) {s : State} (h : s.enginesOk = true) :
    (alu e rd v s).enginesOk = true := retire_ok (engineOk_setReg rd v) h

theorem busLoad_ok (e : Fin 18) (a : Word) (n : Nat) (w : Word) {s : State} (h : s.enginesOk = true) :
    (busLoad e a n w s).1.enginesOk = true := by
  unfold busLoad; dsimp only; split
  · dsimp only; exact readCtl_ok _ _ h
  · split
    · dsimp only; exact applyHub_ok _ h
    · split <;> (dsimp only; exact applyHub_ok _ h)

theorem busLoad_trap_code {e : Fin 18} {a : Word} {n : Nat} {w : Word} {s : State} {t : Trap}
    (h : (busLoad e a n w s).2 = .inr t) : t.code ≤ 15 := by
  unfold busLoad at h; dsimp only at h; split at h
  · cases h
  · split at h
    · cases h; exact small rfl
    · split at h
      · cases h; exact small rfl
      · cases h

theorem busStore_ok (e : Fin 18) (a v : Word) (n : Nat) {s : State} (h : s.enginesOk = true) :
    (busStore e a v n s).1.enginesOk = true := by
  unfold busStore; dsimp only; split <;> dsimp only
  · exact setEngine_ok (engineOk_writeCtl _ v) h
  · exact applyHub_ok _ h

theorem load_ok (e : Fin 18) (rd ra : Fin 32) (off : BitVec 16) (n : Nat) (sg : Bool) (w : Word) {s : State}
    (h : s.enginesOk = true) : (load e rd ra off n sg w s).enginesOk = true := by
  unfold load; dsimp only; split
  · exact trap_ok e (small rfl) h
  · split
    · rename_i t ht; exact trap_ok e (busLoad_trap_code ht) (busLoad_ok e _ n w h)
    · exact retire_ok (engineOk_setReg rd _) (busLoad_ok e _ n w h)

theorem store_ok (e : Fin 18) (rd ra : Fin 32) (off : BitVec 16) (n : Nat) (w : Word) {s : State}
    (h : s.enginesOk = true) : (store e rd ra off n w s).enginesOk = true := by
  unfold store; dsimp only; split
  · exact trap_ok e (small rfl) h
  · have h1 := busStore_ok e (regOf e ra s + sext off) (regOf e rd s) n (retire_ok (e := e) (f := id) (fun hx => hx) h)
    split
    · exact trap_ok e (small rfl) (setEngine_ok (engineOk_pc _) h1)
    · exact h1

theorem pushWords_ok (e : Fin 18) (w : Word) (l : List (Fin 32)) (a : Word) {s : State} (h : s.enginesOk = true) :
    (pushWords e w l a s).1.enginesOk = true := by
  induction l generalizing a s with
  | nil => exact h
  | cons r l ih =>
    unfold pushWords; dsimp only; split
    · exact busStore_ok e a _ 4 h
    · exact ih _ (busStore_ok e a _ 4 h)

theorem pushWords_trap_code {e : Fin 18} {w : Word} {l : List (Fin 32)} {a : Word} {s : State} {t : Trap}
    (h : (pushWords e w l a s).2 = some t) : t.code ≤ 15 := by
  induction l generalizing a s with
  | nil => cases h
  | cons r l ih =>
    unfold pushWords at h; dsimp only at h; split at h
    · cases h; exact small rfl
    · exact ih h

theorem popWords_ok (e : Fin 18) (w : Word) (l : List (Fin 32)) (a : Word) {s : State} (h : s.enginesOk = true) :
    (popWords e w l a s).1.enginesOk = true := by
  induction l generalizing a s with
  | nil => exact h
  | cons r l ih =>
    unfold popWords; dsimp only; split
    · exact busLoad_ok e a 4 w h
    · split <;> exact ih _ (busLoad_ok e a 4 w h)

theorem popWords_trap_code {e : Fin 18} {w : Word} {l : List (Fin 32)} {a : Word} {s : State} {t : Trap}
    (h : (popWords e w l a s).2 = .inr t) : t.code ≤ 15 := by
  induction l generalizing a s with
  | nil => cases h
  | cons r l ih =>
    unfold popWords at h; dsimp only at h; split at h
    · cases h; rename_i ht; exact busLoad_trap_code ht
    · split at h
      · cases h; rename_i ht; exact ih ht
      · cases h

theorem push_ok (e : Fin 18) (l : List (Fin 32)) (w : Word) {s : State} (h : s.enginesOk = true) :
    (push e l w s).enginesOk = true := by
  unfold push; dsimp only; split
  · exact trap_ok e (small rfl) h
  · split
    · rename_i t ht; exact trap_ok e (pushWords_trap_code ht) (pushWords_ok e w l _ h)
    · exact retire_ok (engineOk_writeCtl 8 _) (pushWords_ok e w l _ h)

/-- Writing a list of registers keeps it. -/
theorem engineOk_setRegs {e : Fin 18} (l : List (Fin 32 × Word)) {x : Engine} (h : engineOk e x = true) :
    engineOk e (l.foldl (fun x v => x.setReg v.1 v.2) x) = true := by
  induction l generalizing x with
  | nil => exact h
  | cons v l ih => exact ih (engineOk_setReg v.1 v.2 h)

theorem pop_ok (e : Fin 18) (l : List (Fin 32)) (w : Word) {s : State} (h : s.enginesOk = true) :
    (pop e l w s).enginesOk = true := by
  unfold pop; dsimp only; split
  · exact trap_ok e (small rfl) h
  · split
    · rename_i t ht; exact trap_ok e (popWords_trap_code ht) (popWords_ok e w l _ h)
    · exact retire_ok (fun hx => engineOk_writeCtl 8 _ (engineOk_setRegs _ hx)) (popWords_ok e w l _ h)

theorem addDsp_ok (e : Fin 18) (o : BitVec 16) (w : Word) {s : State} (h : s.enginesOk = true) :
    (addDsp e o w s).enginesOk = true := by
  unfold addDsp; dsimp only; split
  · exact trap_ok e (small rfl) h
  · split
    · exact trap_ok e (small rfl) h
    · exact retire_ok (engineOk_writeCtl 8 _) h

theorem callTo_ok (e : Fin 18) (target w : Word) {s : State} (h : s.enginesOk = true) :
    (callTo e target w s).enginesOk = true := by
  unfold callTo; dsimp only; split
  · exact trap_ok e (small rfl) h
  · rename_i hd
    refine setEngine_ok (fun hx => ?_) h
    rw [engineOk_iff] at hx ⊢
    exact ⟨by simp only [List.length_cons]; omega, hx.2⟩

theorem ret_ok (e : Fin 18) (w : Word) {s : State} (h : s.enginesOk = true) : (ret e w s).enginesOk = true := by
  unfold ret; split
  · exact trap_ok e (small rfl) h
  · rename_i a l hl
    refine setEngine_ok (fun hx => ?_) h
    rw [engineOk_iff] at hx ⊢
    rw [hl] at hx
    exact ⟨Nat.le_of_succ_le hx.1, hx.2⟩

theorem branch_ok (e : Fin 18) (ra rb : Fin 32) (d : BitVec 16) (c : Word → Word → Bool) {s : State}
    (h : s.enginesOk = true) : (branch e ra rb d c s).enginesOk = true := by
  unfold branch; split
  · exact setEngine_ok (engineOk_pc _) h
  · exact retire_ok (fun hx => hx) h

theorem jumpReg_ok (e : Fin 18) (r : Fin 32) (w : Word) {go : Word → State → State} {s : State}
    (hg : ∀ a, (go a s).enginesOk = true) (h : s.enginesOk = true) : (jumpReg e r w go s).enginesOk = true := by
  unfold jumpReg; dsimp only; split
  · exact trap_ok e (small rfl) h
  · exact hg _

theorem divide_ok (e : Fin 18) (rd ra rb : Fin 32) (f : Word → Word → Word) (w : Word) {s : State}
    (h : s.enginesOk = true) : (divide e rd ra rb f w s).enginesOk = true := by
  unfold divide; split
  · exact trap_ok e (small rfl) h
  · exact alu_ok e rd _ h

theorem busWrite_ok (m : Master) (a : Word) (n : Nat) (v : Word) {s : State} (h : s.enginesOk = true) :
    (busWrite m a n v s).enginesOk = true := by
  unfold busWrite; split
  · split
    · exact setEngine_ok (engineOk_writeCtl _ v) h
    · exact applyHub_ok _ h
  · exact h

theorem busRead_ok (m : Master) (a : Word) (n : Nat) {s : State} (h : s.enginesOk = true) :
    (busRead m a n s).enginesOk = true := by
  unfold busRead; split
  · split
    · exact h
    · exact applyHub_ok _ h
  · exact h

end Sys2Proof.Machine
end

