-- ==== Sys2Proof/Laws/Frames.lean ====
section
/-! SUPPORT. What receiving a frame makes of a message that the port takes (R129–R139): the message acts on the hub that the
frame leaves once it is opened, and the frame is closed after. -/

namespace Sys2Proof.Machine
open Sys2Proof.Reg

/-- Bytes written to memory leave the ports as they were. -/
theorem Hub.ports_setBytes (a : Nat) (l : List Byte) (h : Hub) : (h.setBytes a l).ports = h.ports := by
  induction l generalizing a h with
  | nil => rfl
  | cons b l ih => exact (ih _ _).trans rfl

/-- Storing a frame in the ring does not change who holds the port. -/
theorem Hub.autoHeld_ringWrite (p : Fin 16) (f : RxFrame) (h : Hub) : (h.ringWrite p f).autoHeld p = h.autoHeld p := by
  unfold Hub.ringWrite Hub.autoHeld
  rw [Hub.port_mapPort_self]
  exact congrArg (fun v : Vector PortH 16 => v[p].auto) (Hub.ports_setBytes _ _ h)

/-- A change of a port that does not free it of the auto-responder. -/
theorem Hub.autoHeld_mapPort {p : Fin 16} {g : PortH → PortH} (h : Hub) (hg : ∀ s, (g s).auto = s.auto) :
    (h.mapPort p g).autoHeld p = h.autoHeld p := by
  unfold Hub.autoHeld; rw [Hub.port_mapPort_self]; exact hg _

/-! ### Who holds the port -/

theorem Hub.autoHeld_pwr (h : Hub) (p q : Fin 16) (f : PField) (v : Nat) : (h.pwr q f v).autoHeld p = h.autoHeld p := (rfl)

theorem Hub.autoHeld_pbump (h : Hub) (p q : Fin 16) (f : PField) : (h.pbump q f).autoHeld p = h.autoHeld p :=
  (rfl)

theorem Hub.autoHeld_rx (h : Hub) (p : Fin 16) :
    ((h.stamp p.val).peEvent p PE_EVENT.rx).autoHeld p = h.autoHeld p := (rfl)

theorem Hub.autoHeld_keepId (p : Fin 16) (f : RxFrame) (h : Hub) : (h.keepId p f).autoHeld p = h.autoHeld p :=
  Hub.autoHeld_mapPort h fun s => by split <;> rfl

theorem Hub.autoHeld_start (p : Fin 16) (t : Tmr) (n : Nat) (h : Hub) : (h.start p t n).autoHeld p = h.autoHeld p :=
  Hub.autoHeld_mapPort h fun _ => rfl

theorem Hub.autoHeld_stop (p : Fin 16) (t : Tmr) (h : Hub) : (h.stop p t).autoHeld p = h.autoHeld p :=
  Hub.autoHeld_mapPort h fun _ => rfl

theorem Hub.autoHeld_ite (p : Fin 16) (c : Prop) [Decidable c] (x y : Hub) :
    (if c then x else y).autoHeld p = if c then x.autoHeld p else y.autoHeld p := by split <;> rfl

/-- Accepting a frame does not change who holds the port. -/
theorem Hub.autoHeld_acceptFrame (p : Fin 16) (f : RxFrame) (h : Hub) :
    (h.acceptFrame p f).autoHeld p = h.autoHeld p := by
  have hm : ∀ (x : Hub) (n : Nat), (x.mapPort p fun s => { s with lastEpr := n }).autoHeld p = x.autoHeld p :=
    fun x n => Hub.autoHeld_mapPort x fun _ => rfl
  simp only [Hub.acceptFrame, Hub.autoHeld_ringWrite, Hub.autoHeld_rx, Hub.autoHeld_ite, hm, Hub.autoHeld_start,
    Hub.autoHeld_pwr, Hub.autoHeld_keepId, Hub.autoHeld_pbump, ite_self]

/-- Opening a frame does not change who holds the port. -/
theorem Hub.autoHeld_openFrame (p : Fin 16) (f : RxFrame) (h : Hub) :
    ((h.arrived p).openFrame p f).autoHeld p = h.autoHeld p := by
  have hm : ∀ x : Hub, (x.mapPort p fun s => { s with
      chunkData := if f.extended && f.chunked then s.chunkData else [],
      chunkOut := if isChunkRequest f then s.chunkOut else none }).autoHeld p = x.autoHeld p :=
    fun x => Hub.autoHeld_mapPort x fun _ => rfl
  have ha : (h.arrived p).autoHeld p = h.autoHeld p := Hub.autoHeld_mapPort h fun _ => rfl
  simp only [Hub.openFrame, Hub.autoHeld_ite, Hub.autoHeld_pwr, Hub.autoHeld_stop, Hub.autoHeld_acceptFrame, hm, ha,
    ite_self]

/-- A frame that the port takes as a message acts once it is opened, and is closed after (R129–R139). -/
theorem Hub.receive_takes {p : Fin 16} {f : RxFrame} {auto act : Hub → Hub} {h : Hub} (ht : h.takes p f = true) :
    h.receive p f auto act = (act (h.took p f)).closeFrame p := by
  simp only [Hub.takes, Bool.and_eq_true, Bool.or_eq_true, beq_iff_eq, bne_iff_ne, Bool.not_eq_true', decide_eq_true_eq] at ht
  obtain ⟨⟨⟨⟨⟨⟨⟨⟨⟨a1, a2⟩, a3⟩, a4⟩, a5⟩, a6⟩, a7⟩, a8⟩, a9⟩, a10⟩ := ht
  unfold Hub.receive Hub.took
  rw [if_neg (by simp [a1, a2, a3]), if_neg (by rcases a4 with a4 | a4 <;> simp [a4]),
    if_neg (by omega), if_neg a6, if_neg (by rw [a7]; exact Bool.false_ne_true)]
  simp only [Hub.autoHeld_openFrame, a10, a9, Bool.false_eq_true, if_false]
  rw [if_neg]
  simpa using a8

end Sys2Proof.Machine
end

