-- ==== Sys2Proof/Laws/Memory.lean ====
section
/-! SUPPORT. Laws of memory: read after write, and that every operation that changes memory keeps its canonical form. -/

namespace Sys2Proof.Machine

/-! ### The canonical form -/

/-- Writing a byte keeps the canonical form. -/
theorem Memory.wf_setByte {h : Hub} (a : Nat) (v : Byte) (hm : Memory.wf h.mem = true) :
    Memory.wf (h.setByte a v).mem = true := sparseWf_set hm

/-- Writing bytes keeps the canonical form. -/
theorem Memory.wf_setBytes (l : List Byte) {h : Hub} (a : Nat) (hm : Memory.wf h.mem = true) :
    Memory.wf (h.setBytes a l).mem = true := by
  induction l generalizing h a with
  | nil => exact hm
  | cons b l ih => exact ih _ (Memory.wf_setByte a b hm)

/-- Writing a word keeps the canonical form. -/
theorem Memory.wf_setMemWord {h : Hub} (a : Nat) (v : Word) (hm : Memory.wf h.mem = true) :
    Memory.wf (h.setMemWord a v).mem = true := Memory.wf_setBytes _ a hm

/-- Writing words keeps the canonical form. -/
theorem Memory.wf_setWords {h : Hub} (a : Nat) (ws : List Word) (hm : Memory.wf h.mem = true) :
    Memory.wf (h.setWords a ws).mem = true := Memory.wf_setBytes _ a hm

/-- Writing words of a message buffer keeps the canonical form. -/
theorem Memory.wf_setMsgWords {h : Hub} (p : Fin 16) (o : Nat) (ws : List Word) (hm : Memory.wf h.mem = true) :
    Memory.wf (h.setMsgWords p o ws).mem = true := Memory.wf_setBytes _ _ hm

/-- Zeroing the port engines' SRAM keeps the canonical form. -/
theorem Memory.wf_zeroEngines {h : Hub} (hm : Memory.wf h.mem = true) : Memory.wf h.zeroEngines.mem = true :=
  sparseWf_filter _ hm

/-- Erasing flash keeps the canonical form. -/
theorem Memory.wf_eraseFlash {h : Hub} (a b : Nat) (hm : Memory.wf h.mem = true) :
    Memory.wf (h.eraseFlash a b).mem = true := sparseWf_filter _ hm

/-- Memory after power-on reset has the form. -/
theorem Memory.wf_reset : Memory.wf State.reset.hub.mem = true := rfl

/-! ### Read after write -/

/-- The address is one of plain memory: neither boot ROM, nor the ledger, nor reserved in a message buffer (R136, R186,
R399). -/
def plainByte (a : Nat) : Bool :=
  decide (0x10000 ≤ a) && !(decide (0x22000000 ≤ a) && decide (a < 0x22004000)) && !msgReserved a

/-- What a byte of boot ROM, of the ledger or of a reserved place reads as, as a function of the hub apart from its memory. -/
def Hub.otherByte (h : Hub) (a : Nat) : Byte :=
  if a < 0x10000 then h.romByte a
  else if 0x22000000 ≤ a ∧ a < 0x22004000 then BitVec.ofNat 8 (h.ledgerWord (a - 0x22000000) / 256 ^ (a % 4))
  else 0

/-- A byte is plain memory's, or boot ROM's, the ledger's or a reserved place's. -/
theorem Hub.memByte_eq (h : Hub) (a : Nat) :
    h.memByte a = if plainByte a then sparseGet memDefault h.mem a else h.otherByte a := by
  unfold Hub.memByte Hub.otherByte plainByte
  generalize 0x22000000 = x
  generalize 0x22004000 = y
  by_cases h1 : a < 0x10000
  · rw [if_pos h1, if_pos h1, if_neg (by simp; omega)]
  · rw [if_neg h1, if_neg h1]
    by_cases h2 : x ≤ a ∧ a < y
    · rw [if_pos h2, if_pos h2, if_neg (by simp [h2])]
    · rw [if_neg h2, if_neg h2]
      by_cases h3 : msgReserved a = true
      · rw [if_pos h3, if_neg (by simp [h3])]
      · rw [if_neg h3, if_pos]
        simp only [Bool.and_eq_true, decide_eq_true_eq, Bool.not_eq_true', Bool.and_eq_false_iff,
          decide_eq_false_iff_not]
        exact ⟨by omega, by simpa using h3⟩

/-- The ledger does not depend on memory. -/
theorem Hub.ledgerWord_setByte (h : Hub) (a o : Nat) (v : Byte) : (h.setByte a v).ledgerWord o = h.ledgerWord o := rfl

/-- Boot ROM and the ledger do not depend on memory. -/
theorem Hub.otherByte_setByte (h : Hub) (a b : Nat) (v : Byte) : (h.setByte a v).otherByte b = h.otherByte b := by
  unfold Hub.otherByte
  rw [Hub.ledgerWord_setByte]
  rw [show (h.setByte a v).romByte b = h.romByte b from rfl]

/-- The map of memory after a byte is written. -/
theorem Hub.mem_setByte (h : Hub) (a : Nat) (v : Byte) : (h.setByte a v).mem = sparseSet memDefault h.mem a v := rfl

/-- Read after write of a byte: plain memory takes it, every other byte is as before. -/
theorem Hub.memByte_setByte (h : Hub) (a b : Nat) (v : Byte) :
    (h.setByte a v).memByte b = if b = a ∧ plainByte a = true then v else h.memByte b := by
  rw [Hub.memByte_eq, Hub.memByte_eq, Hub.otherByte_setByte, Hub.mem_setByte, sparseGet_set]
  by_cases hab : b = a
  · subst hab; cases plainByte b <;> simp
  · simp [hab]

end Sys2Proof.Machine
end

