-- ==== Sys2Proof/Tests/Slice0.lean ====
section
/-! SUPPORT. Tests: ill-formed commands that the check refuses, words written out bit by bit, steps with results taken from
the spec, and for every statement with hypotheses a state and operands that meet them (theorems `met_…`). -/

namespace Sys2Proof.Tests

open Sys2Proof Sys2Proof.Machine Sys2Proof.Reg

/-! ### Small states -/

/-- A hub that runs, as reset left its registers. -/
def hub0 : Hub := { State.reset.hub with power := .run }

/-- The state after reset with another hub. -/
def on (h : Hub) : State := { State.reset with hub := h }

/-- The last tick before the cycle number wraps. -/
def lastTick : Hub := { hub0 with sun := { hub0.sun with cycle := 0xFFFFFFFF, angle := 0xFFFF } }

/-- Port 0 in Type-C state `tc`. -/
def port0 (tc : Nat) : Hub := hub0.pwr 0 PORT_STATUS.tc_state tc


/-- Port 0 attached as source (7) or sink (4), with messaging on. -/
def talking (tc : Nat) : Hub := (port0 tc).pwr 0 PD_STATUS.power_role (if tc = 7 then 1 else 0)

/-- Supervisors A and B run, and port engine 3. -/
def hubE : Hub := ((hub0.wr ENG_STATUS.state_a 1).wr ENG_STATUS.state_b 1).wr PE_STATUS.halted 0

/-- Engine `e` changed, on a hub whose engines run. -/
def eng (e : Fin 18) (f : Engine → Engine) : State :=
  { hub := hubE, engines := State.reset.engines.set e (f State.reset.engines[e]), pending := [] }

/-- A general register of an engine set. -/
def setG (r : Fin 32) (v : Word) (x : Engine) : Engine := { x with regs := x.regs.set r v }

/-- A control register of an engine set. -/
def setC (n : Fin 16) (v : Word) (x : Engine) : Engine := { x with ctl := x.ctl.set n v }

/-! ### Ill-formed commands, one for each check -/

/-- A frame without data. -/
def frame0 : RxFrame :=
  { sop := .sop, id := 1, rev := .rev3, header := 0, extended := false, chunked := false, moreChunks := false, size := 0,
    data := [] }

theorem refused_word_zero : wellFormed (.add 16 0 0 0) = false := by decide

theorem refused_register_of_port_engine :
    wellFormed (.sub 3 16 0 0) = false ∧ wellFormed (.xor 3 0 16 0) = false ∧ wellFormed (.mul 3 0 0 16) = false ∧
      wellFormed (.neg 3 1 16) = false ∧ wellFormed (.ldw 3 16 1 0) = false ∧ wellFormed (.beq 3 1 16 0) = false ∧
      wellFormed (.lui 3 16 0) = false ∧ wellFormed (.jmpr 3 16) = false ∧ wellFormed (.mfc 3 16 0) = false ∧
      wellFormed (.mtc 3 16 1) = false ∧ wellFormed (.xor 16 0 31 16) = true := by decide

theorem refused_mask :
    wellFormed (.pushl 16 0) = false ∧ wellFormed (.popl 16 1) = false ∧ wellFormed (.pushh 16 0) = false ∧
      wellFormed (.poph 3 2) = false ∧ wellFormed (.pushl 3 2) = true ∧ wellFormed (.pushh 16 1) = true := by decide

theorem refused_operand :
    wellFormed (.addsp 16 2) = false ∧ wellFormed (.mfc 16 1 0x10) = false ∧ wellFormed (.mtc 16 1 0) = false ∧
      wellFormed (.mtc 16 1 12) = false ∧ wellFormed (.mtc 16 1 14) = false ∧
      wellFormed (.reservedEncoding 16 0xFC000000) = false ∧ wellFormed (.reservedEncoding 16 0) = true := by decide

theorem refused_frame :
    wellFormed (.acceptReceived 0 { frame0 with extended := true, size := 261 }) = false ∧
      wellFormed (.acceptReceived 0 { frame0 with extended := true, data := List.replicate 66 0 }) = false ∧
      wellFormed (.acceptReceived 0 { frame0 with extended := true, moreChunks := true }) = false ∧
      wellFormed (.acceptReceived 0 { frame0 with chunked := true }) = false ∧
      wellFormed (.acceptReceived 0 { frame0 with moreChunks := true }) = false ∧
      wellFormed (.acceptReceived 0 { frame0 with data := List.replicate 8 0 }) = false ∧
      wellFormed (.acceptReceived 0 frame0) = true := by decide

theorem refused_termination :
    wellFormed (.ccTerminationSeen 0 (.rp 0) .rd) = false ∧ wellFormed (.ccTerminationSeen 0 .rd (.rp 0)) = false ∧
      wellFormed (.watchDetection 0 .a (.rp 0)) = false ∧ wellFormed (.ccTerminationSeen 0 (.rp 1) .rd) = true := by decide

theorem refused_firmware_message :
    wellFormed (.fwMsgRx 1 false 31 []) = false ∧ wellFormed (.fwMsgRx 1 false 64 []) = false ∧
      wellFormed (.fwMsgRx 1 false 32 (List.replicate 33 0)) = false ∧
      wellFormed (.fwMsgRx 1 false 63 (List.replicate 32 0)) = true := by decide

/-! ### Words written out from the tables of chapter 11, field by field -/

theorem word_format_a :
    decodeBurjo 16 ((0b000000 : BitVec 6) ++ (0b00001 : BitVec 5) ++ (0b00010 : BitVec 5) ++ (0b11111 : BitVec 5) ++
      (0b00000 : BitVec 5) ++ (0b000001 : BitVec 6)) = some (.sub 16 1 2 31) ∧
    decodeBurjo 3 ((0b000001 : BitVec 6) ++ (0b00001 : BitVec 5) ++ (0b00010 : BitVec 5) ++ (0b00011 : BitVec 5) ++
      (0b00000 : BitVec 5) ++ (0b000110 : BitVec 6)) = some (.remu 3 1 2 3) ∧
    decodeBurjo 16 ((0b000000 : BitVec 6) ++ (0b00001 : BitVec 5) ++ (0b00010 : BitVec 5) ++ (0b00011 : BitVec 5) ++
      (0b00001 : BitVec 5) ++ (0b000001 : BitVec 6)) = none ∧
    decodeBurjo 16 ((0b000000 : BitVec 6) ++ (0b00001 : BitVec 5) ++ (0b00010 : BitVec 5) ++ (0b00011 : BitVec 5) ++
      (0b00000 : BitVec 5) ++ (0b000111 : BitVec 6)) = none := by decide

theorem word_format_i :
    decodeBurjo 16 ((0b001100 : BitVec 6) ++ (0b10000 : BitVec 5) ++ (0b00010 : BitVec 5) ++ (0x8001 : BitVec 16)) =
      some (.slti 16 16 2 0x8001) ∧
    decodeBurjo 16 ((0b001110 : BitVec 6) ++ (0b00001 : BitVec 5) ++ (0b00000 : BitVec 5) ++ (0x1234 : BitVec 16)) =
      some (.lui 16 1 0x1234) ∧
    decodeBurjo 16 ((0b010010 : BitVec 6) ++ (0b00001 : BitVec 5) ++ (0b00010 : BitVec 5) ++ (0x001F : BitVec 16)) =
      some (.sari 16 1 2 31) ∧
    decodeBurjo 16 ((0b010010 : BitVec 6) ++ (0b00001 : BitVec 5) ++ (0b00010 : BitVec 5) ++ (0x0020 : BitVec 16)) = none := by
  decide

theorem word_format_m :
    decodeBurjo 3 ((0b011001 : BitVec 6) ++ (0b00001 : BitVec 5) ++ (0b00010 : BitVec 5) ++ (0xFFFE : BitVec 16)) =
      some (.ldh 3 1 2 0xFFFE) ∧
    decodeBurjo 3 ((0b100001 : BitVec 6) ++ (0b00001 : BitVec 5) ++ (0b00010 : BitVec 5) ++ (0x0002 : BitVec 16)) =
      some (.sth 3 1 2 2) := by decide

theorem word_format_b :
    decodeBurjo 3 ((0b101100 : BitVec 6) ++ (0b00001 : BitVec 5) ++ (0b00010 : BitVec 5) ++ (0xFFFF : BitVec 16)) =
      some (.bltu 3 1 2 0xFFFF) ∧
    decodeBurjo 3 ((0b101110 : BitVec 6) ++ (0x2000001 : BitVec 26)) = some (.jmp 3 0x2000001) := by decide

theorem word_format_s :
    decodeBurjo 16 ((0b111110 : BitVec 6) ++ (0b00000 : BitVec 5) ++ (0b00011 : BitVec 5) ++ (0x8001 : BitVec 16)) =
      some (.poph 16 0x8001) ∧
    decodeBurjo 16 ((0b111110 : BitVec 6) ++ (0b10101 : BitVec 5) ++ (0b00110 : BitVec 5) ++ (0x0000 : BitVec 16)) =
      some (.callr 16 21) ∧
    decodeBurjo 3 ((0b111111 : BitVec 6) ++ (0b00111 : BitVec 5) ++ (0b00010 : BitVec 5) ++ (0x0007 : BitVec 16)) =
      some (.mtc 3 7 7) ∧
    decodeBurjo 3 ((0b111111 : BitVec 6) ++ (0b00000 : BitVec 5) ++ (0b00110 : BitVec 5) ++ (0x0000 : BitVec 16)) =
      some (.wait 3) := by decide

/-! ### Steps with the results of the tables of chapter 11 and of chapters 02, 05 and 12 -/

/-- What a register of an engine holds after a command. -/
def regAt (e : Fin 18) (r : Fin 32) : Host.Outcome State Fault Refusal → Option Word
  | .next t => some (regOf e r t)
  | _ => none

/-- What a test finds of the hub after a command. -/
def hubAt {α : Type} (f : Hub → α) : Host.Outcome State Fault Refusal → Option α
  | .next t => some (f t.hub)
  | _ => none

/-- Supervisor A with two operands in g1 and g2. -/
def two (a b : Word) : State := eng 16 fun x => setG 1 a (setG 2 b x)

theorem test_div_corner : regAt 16 3 (exec (.div 16 3 1 2) (two 0x80000000 0xFFFFFFFF)) = some 0x80000000 := by decide

theorem test_div_rounds_to_zero : regAt 16 3 (exec (.div 16 3 1 2) (two 0xFFFFFFF9 2)) = some 0xFFFFFFFD := by decide

theorem test_rem_sign_of_dividend : regAt 16 3 (exec (.rem 16 3 1 2) (two 0xFFFFFFF9 2)) = some 0xFFFFFFFF := by decide

theorem test_divu_by_zero : regAt 16 3 (exec (.divu 16 3 1 2) (two 0x1234 0)) = some 0xFFFFFFFF := by decide

theorem test_remu_by_zero : regAt 16 3 (exec (.remu 16 3 1 2) (two 0x1234 0)) = some 0x1234 := by decide

theorem test_neg_wraps : regAt 16 3 (exec (.neg 16 3 1) (two 0x80000000 0)) = some 0x80000000 := by decide

theorem test_sadd_saturates : regAt 16 3 (exec (.sadd 16 3 1 2) (two 0x7FFFFFFF 1)) = some 0x7FFFFFFF := by decide

theorem test_ssub_saturates : regAt 16 3 (exec (.ssub 16 3 1 2) (two 0x80000000 1)) = some 0x80000000 := by decide

theorem test_sar_by_32 : regAt 16 3 (exec (.sar 16 3 1 2) (two 0x80000000 32)) = some 0xFFFFFFFF := by decide

theorem test_shl_by_32 : regAt 16 3 (exec (.shl 16 3 1 2) (two 1 32)) = some 0 := by decide

theorem test_rot_right : regAt 16 3 (exec (.rot 16 3 1 2) (two 1 33)) = some 0x80000000 := by decide

theorem test_sltiu_sign_extends : regAt 16 3 (exec (.sltiu 16 3 1 0xFFFF) (two 0x10000 0)) = some 1 := by decide

theorem test_mulh_signed : regAt 16 3 (exec (.mulh 16 3 1 2) (two 0xFFFFFFFF 0xFFFFFFFF)) = some 0 := by decide

theorem test_mulhu_unsigned : regAt 16 3 (exec (.mulhu 16 3 1 2) (two 0xFFFFFFFF 0xFFFFFFFF)) = some 0xFFFFFFFE := by decide

theorem test_g0_discards : regAt 16 0 (exec (.add 16 0 1 2) (two 1 2)) = some 0 := by decide

/-- A byte loaded with its sign (R425): 0x80 at 0x20000003. -/
theorem test_ldb_sign :
    let s : State := { eng 16 (setG 1 0x20000004) with hub := hubE.setByte 0x20000003 0x80 }
    regAt 16 2 (exec (.ldb 16 2 1 0xFFFF) s) = some 0xFFFFFF80 := by decide +kernel

/-- READY was a million ticks ago, with ACZ wired and no edge since. -/
def mainsGone : Hub :=
  { hub0.wr SUN_CFG.acz_wired 1 with sun := { hub0.sun with ticks := 1000000, readyTick := some 0 } }

/-- The wrap counts the epoch (R87). -/
theorem test_wrap_counts_epoch :
    hubAt (fun h => (h.sun.cycle, h.rd LOG_HEADER.epoch)) (exec .sundialWrap (on lastTick)) = some (0, 1) := by decide +kernel

/-- MAINS_LOST latches source 32 (R70). -/
theorem test_mains_lost :
    hubAt (fun h => (h.latched 32, h.is SUN_STATUS.mains_lost)) (exec .mainsLost (on mainsGone)) =
      some (true, true) := by decide +kernel

/-- Rd on one lane leads an unattached source into ATTACHWAIT_SRC (R93, R100). -/
theorem test_rd_seen :
    hubAt (fun h => (h.tc 0, h.runs 0 .ccDebounce)) (exec (.ccTerminationSeen 0 .rd .ra) (on (port0 5))) = some (6, true) := by
  decide +kernel

/-- A Hard Reset received as source starts the 25 ms to VBUS off (R175). -/
theorem test_hard_reset :
    hubAt (fun h => ((h.port 0).timers, h.prd 0 PD_STATUS.contract)) (exec (.hardResetReceived 0) (on (talking 7))) =
      some ([(.hrVbusOff, 25000)], 0) := by decide +kernel

/-- An overvoltage of VHUB latches source 41 (R351, R454). -/
theorem test_vhub_over : hubAt (fun h => h.latched 41) (exec .vhubOver (on hub0)) = some true := by decide +kernel

/-- Supervisor A's watchdog: HALTED, source 23, and B becomes primary (R385). -/
theorem test_watchdog :
    hubAt (fun h => (h.rd ENG_STATUS.state_a, h.latched 23, h.rd ENG_STATUS.primary)) (exec (.supervisorWatchdog false)
      (on { hubE with sun := { hubE.sun with clk := 3000000000 }, supKick := #v[0, 3000000000] })) =
      some (3, true, 1) := by decide +kernel

/-- A frame out of order is NACKed SEQUENCE, code 0x02 (R553, R557): type 0x81, its sequence, length 2, payload and CRC-32. -/
theorem test_denoc_sequence :
    hubAt (fun h => h.fw.sent.take 7) (exec (.denocInfo 9)
      (on { hub0.wr DENOC_STATUS.session 1 with fw := { hub0.fw with lastSeq := some 4 } })) = some [0xA5, 0x81, 9, 2, 0, 1, 2] := by
  decide +kernel

/-- An unknown code of the host is not acknowledged (R504). -/
theorem test_host_unknown_code :
    hubAt (fun h => h.is HOST_STATUS.cmd_nack) (exec (.hostCmdNack 5) (on (hub0.wr SYS_STATUS.last_step 7))) = some true := by
  decide +kernel

/-- SYS_MODE.ship without its key is a reserved code: the write is rejected with source 28 (R369, R583). -/
theorem test_reserved_code_rejected :
    hubAt (fun h => (h.latched 28, h.rd REJECT_INFO.index)) (exec (.registerWrite .supA (regAddr 0x3) 0x2) (on hubE)) =
      some (true, 3) := by decide +kernel

/-! ### States that meet the hypotheses: the queue and engines -/

theorem met_StepRunsFront : ({ on hub0 with pending := [.whistleAbort, .syncPulse] } : State).pending =
    Instr.whistleAbort :: [Instr.syncPulse] := by decide

theorem met_EmptyQueueTicks :
    (State.reset.pending = [] ∧ State.reset.hub.up = false) ∧
      ((on lastTick).pending = [] ∧ lastTick.up = true ∧ lastTick.sun.cycle = 0xFFFFFFFF ∧ lastTick.sun.angle = 0xFFFF) ∧
      ((on hub0).pending = [] ∧ hub0.up = true ∧ ¬(hub0.sun.cycle = 0xFFFFFFFF ∧ hub0.sun.angle = 0xFFFF)) := by decide

theorem met_EnginesStayInOrder : State.reset.enginesOk = true ∧ ∃ t, step State.reset = .next t :=
  ⟨by decide, _, rfl⟩

theorem met_OnlyTheseReachEngines :
    reachesEngine .syncPulse = false ∧ ∃ t, exec .syncPulse (on hub0) = .next t := ⟨by decide, _, rfl⟩

theorem met_InstructionsReadBack :
    engineOf (.poph 17 0x8001) = some 17 ∧ wfBurjo (.poph 17 0x8001) = true ∧
      ∀ w : Word, Instr.poph 17 0x8001 ≠ .reservedEncoding 17 w :=
  ⟨by decide, by decide, fun _ h => nomatch h⟩

theorem met_ArithmeticResults :
    atInstr 16 (.add 16 3 1 2) (two 1 2) = true ∧ atInstr 16 (.mulhu 16 3 1 2) (two 1 2) = true ∧
      (atInstr 16 (.div 16 3 1 2) (two 7 0) = true ∧ (two 7 0).engines[16].flag 1 0 = false) ∧
      (atInstr 16 (.rem 16 0 1 2) (eng 16 fun x => setC 1 1 (setG 2 3 x)) = true ∧
        regOf 16 2 (eng 16 fun x => setC 1 1 (setG 2 3 x)) ≠ 0) := by decide

theorem met_ShiftResults :
    atInstr 16 (.sar 16 3 1 2) (two 0x80000000 32) = true ∧ atInstr 3 (.roti 3 15 1 31) (eng 3 id) = true := by decide

theorem met_ImmediateResults :
    atInstr 16 (.slti 16 3 1 0x8000) (two 1 2) = true ∧ atInstr 3 (.lui 3 0 0xFFFF) (eng 3 id) = true := by decide

theorem met_LoadsFromMemory :
    let s := eng 16 (setG 1 0x20000104)
    atInstr 16 (.ldh 16 2 1 0xFFFE) s = true ∧ s.hub.settled = true ∧
      (regOf 16 1 s + (0xFFFE : BitVec 16).signExtend 32).toNat % 2 = 0 ∧
      s.hub.locate (engineMaster 16) (regOf 16 1 s + (0xFFFE : BitVec 16).signExtend 32) = .memory 0x20000102 ∧
      s.hub.cleanWord 0x20000102 = true := by decide

theorem met_StoresToMemory :
    let s := eng 3 (setG 1 0x10000000)
    atInstr 3 (.stb 3 2 1 3) s = true ∧ s.hub.settled = true ∧
      (regOf 3 1 s + (3 : BitVec 16).signExtend 32).toNat % 1 = 0 ∧
      s.hub.locate (engineMaster 3) (regOf 3 1 s + (3 : BitVec 16).signExtend 32) = .memory 0x2101C003 ∧
      s.hub.mayStore 0x2101C003 = true ∧ s.hub.cleanWord 0x2101C003 = true := by decide

theorem met_TrapsTaken :
    let s := eng 3 (setG 1 0x10000002)
    let d := eng 16 (setC 1 1)
    canTrap 3 s = true ∧
      (atInstr 3 (.ldw 3 2 1 0) s = true ∧ (regOf 3 1 s + (0 : BitVec 16).signExtend 32).toNat % 4 ≠ 0) ∧
      (atInstr 3 (.sth 3 2 1 1) s = true ∧ (regOf 3 1 s + (1 : BitVec 16).signExtend 32).toNat % 2 ≠ 0) ∧
      (atInstr 3 (.callr 3 1) s = true ∧ (regOf 3 1 s).toNat % 4 ≠ 0) ∧
      atInstr 3 (.trap 3 0xFFFF) s = true ∧ (atInstr 3 (.brk 3) s = true ∧ s.engines[3].flag 1 1 = false) ∧
      (canTrap 16 d = true ∧ atInstr 16 (.divu 16 1 2 3) d = true ∧ regOf 16 3 d = 0 ∧ d.engines[16].flag 1 0 = true) ∧
      (canIssue 3 s = true ∧ decodeBurjo 3 0 = none) := by decide

theorem met_BranchesAndJumps :
    atInstr 16 (.bge 16 1 2 0x8000) (two 1 2) = true ∧ atInstr 16 (.jmp 16 0x2000000) (two 1 2) = true ∧
      (atInstr 16 (.jmpr 16 1) (two 8 2) = true ∧ (regOf 16 1 (two 8 2)).toNat % 4 = 0) := by decide

theorem met_CallsAndReturns :
    let s := eng 3 (setG 1 0x100)
    let full := eng 3 fun x => { setG 1 0x100 x with rstack := List.replicate 16 4 }
    let last := eng 3 fun x => { x with rstack := List.replicate 15 4 }
    let latched : State → State := fun s =>
      { s with hub := s.hub.latch 26 ⟨masterId (engineMaster 3), 7, s.engines[3].pc⟩ }
    (atInstr 3 (.call 3 0) last = true ∧ (last.engines[3].pc + 4 * (0 : BitVec 26).signExtend 32).toNat % 4 = 0 ∧
        last.engines[3].rstack.length < 16) ∧
      (atInstr 3 (.callr 3 1) s = true ∧ (regOf 3 1 s).toNat % 4 = 0 ∧ s.engines[3].rstack.length < 16) ∧
      (atInstr 3 (.callr 3 1) full = true ∧ (regOf 3 1 full).toNat % 4 = 0 ∧ 16 ≤ full.engines[3].rstack.length ∧
        (latched full).hub.settled = true ∧ canTrap 3 (latched full) = true) ∧
      (atInstr 3 (.ret 3) last = true ∧ last.engines[3].rstack = 4 :: List.replicate 14 4) ∧
      (atInstr 3 (.ret 3) s = true ∧ s.engines[3].rstack = [] ∧ (latched s).hub.settled = true ∧
        canTrap 3 (latched s) = true) := by decide +kernel

/-- Supervisor A with a data stack from 0x20000100 to 0x20000110. -/
def stacked (dsp : Word) : State := eng 16 fun x => setC 8 dsp (setC 9 0x20000100 (setC 10 0x20000110 x))

theorem met_StackTransfers_push :
    let s := stacked 0x20000108
    atInstr 16 (.pushh 16 0x8001) s = true ∧ maskRegs 16 0x8001 = [16, 31] ∧ s.hub.settled = true ∧
      engineOk 16 s.engines[16] = true ∧ s.engines[16].ctl[ctlDsLo].toNat + 4 * 2 ≤ s.engines[16].ctl[ctlDsp].toNat ∧
      ∀ j : Fin 2, s.hub.mayStore (0x20000100 + 4 * j.val) = true ∧ s.hub.cleanWord (0x20000100 + 4 * j.val) = true ∧
        s.hub.locate .supA (s.engines[16].ctl[ctlDsp] - BitVec.ofNat 32 8 + BitVec.ofNat 32 (4 * j.val)) =
          .memory (0x20000100 + 4 * j.val) := by decide

theorem met_StackTransfers_pop :
    let s := stacked 0x20000108
    atInstr 16 (.popl 16 0x0006) s = true ∧ maskRegs 0 0x0006 = [1, 2] ∧ s.hub.settled = true ∧
      engineOk 16 s.engines[16] = true ∧ s.engines[16].ctl[ctlDsp].toNat + 4 * 2 ≤ s.engines[16].ctl[ctlDsHi].toNat ∧
      ∀ j : Fin 2, s.hub.cleanWord (0x20000108 + 4 * j.val) = true ∧
        s.hub.locate .supA (s.engines[16].ctl[ctlDsp] + BitVec.ofNat 32 (4 * j.val)) = .memory (0x20000108 + 4 * j.val) := by
  decide

theorem met_StackBounds :
    let s := stacked 0x20000108
    let s26 : State := { s with hub := s.hub.latch 26 ⟨16, 7, 0⟩ }
    let dsp : Int := s.engines[16].ctl[ctlDsp].toNat
    let lo : Int := s.engines[16].ctl[ctlDsLo].toNat
    let hi : Int := s.engines[16].ctl[ctlDsHi].toNat
    engineOk 16 s.engines[16] = true ∧ s26.hub.settled = true ∧ canTrap 16 s26 = true ∧
      (atInstr 16 (.addsp 16 8) s = true ∧ lo ≤ dsp + (8 : BitVec 16).toInt ∧ dsp + (8 : BitVec 16).toInt ≤ hi) ∧
      (atInstr 16 (.addsp 16 0xFFF8) s = true ∧ lo ≤ dsp + (0xFFF8 : BitVec 16).toInt) ∧
      dsp + (0xFFF4 : BitVec 16).toInt < lo ∧ hi < dsp + (12 : BitVec 16).toInt ∧
      (atInstr 16 (.pushl 16 14) s = true ∧ dsp - 4 * (maskRegs 0 14).length < lo) ∧
      (atInstr 16 (.poph 16 7) s = true ∧ hi < dsp + 4 * (maskRegs 16 7).length) := by decide +kernel

theorem met_ControlRegisters :
    let s := eng 3 (setG 1 0xFFFFFFFF)
    (∀ n : Fin 16, atInstr 3 (.mfc 3 1 (BitVec.ofNat 8 n.val)) s = true) ∧ engineOk 3 s.engines[3] = true ∧
      (∀ n ∈ ([1, 2, 3, 4, 5, 6, 7, 8, 9, 10, 11, 13, 15] : List Nat),
        atInstr 3 (.mtc 3 1 (BitVec.ofNat 8 n)) s = true) := by decide +kernel

theorem met_FailedAccessesTrap :
    let s := eng 3 (setG 1 0x20000000)
    let s27 : State := { s with hub := s.hub.latch 27 ⟨3, 1, 0x20000000⟩ }
    let r := eng 3 (setG 1 0x41000000)
    let r27 : State := { r with hub := r.hub.latch 27 ⟨3, 0, 0x41000000⟩ }
    let bad : State := { eng 3 (setG 1 0x10000000) with hub := { hubE with poison := [0x2101C000] } }
    (atInstr 3 (.stw 3 2 1 0) s = true ∧ s.hub.locateWide (engineMaster 3) 0x20000000 4 = .busError ∧
        s27.hub.settled = true ∧ canTrap 3 s27 = true) ∧
      (atInstr 3 (.ldbu 3 2 1 0) r = true ∧ r.hub.locateWide (engineMaster 3) 0x41000000 1 = .busError ∧
        r27.hub.settled = true ∧ canTrap 3 r27 = true) ∧
      (atInstr 3 (.ldw 3 2 1 4) bad = true ∧
        bad.hub.locate (engineMaster 3) (regOf 3 1 bad + (4 : BitVec 16).signExtend 32) = .memory 0x2101C004 ∧
        bad.hub.poisoned 0x2101C004 = true ∧ bad.hub.settled = true ∧ canTrap 3 bad = true) := by decide +kernel

theorem met_DoubleTrapHalts :
    (atInstr 3 (.trap 3 0) (eng 3 (setC 2 4)) = true ∧ (eng 3 (setC 2 4)).engines[3].flag 2 2 = true) ∧
      (atInstr 16 (.trap 16 0) (eng 16 (setC 2 4)) = true ∧ (eng 16 (setC 2 4)).engines[16].flag 2 2 = true) ∧
      (atInstr 17 (.trap 17 0) (eng 17 fun x => { setC 2 4 x with pc := 0x20000000 }) = true ∧
        (eng 17 fun x => { setC 2 4 x with pc := 0x20000000 }).engines[17].flag 2 2 = true) := by decide

theorem met_SystemInstructions :
    let s := eng 3 (setC 1 2)
    (∀ i ∈ [Instr.nop 3, .fence 3, .wait 3, .eret 3, .brk 3], atInstr 3 i s = true) ∧ s.engines[3].flag 1 1 = true ∧
      (atInstr 16 (.brk 16) (eng 16 (setC 1 2)) = true ∧ (eng 16 (setC 1 2)).engines[16].flag 1 1 = true) ∧
      (atInstr 17 (.brk 17) (eng 17 (setC 1 2)) = true ∧ (eng 17 (setC 1 2)).engines[17].flag 1 1 = true) := by decide

/-- Port engine 3 with a match of TIME_CMP that IRQ_MASK lets through. -/
def timed : State :=
  { eng 3 (fun x => { setC 2 1 (setC 15 1 (setC 13 0x200 x)) with waiting := true }) with
    hub := { hubE with sun := { hubE.sun with clk := 100000 } } }

theorem met_InterruptsTaken :
    timed.hub.runsCode 3 = true ∧
      (timed.engines[3].flag 2 0 = true ∧ timed.engines[3].flag 2 2 = false ∧
        (pending 3 timed).1 &&& timed.engines[3].ctl[ctlIrqMask].toNat ≠ 0) ∧
      (timeDue timed.engines[3] (timeAt 3 timed.hub.sun.clk timed.engines[3].timeBase) = true ∧
        timed.engines[3].ctl[ctlIrqMask].getLsbD 9 = true) := by decide

/-! ### Ports -/

theorem met_AttachAndSearch_drpToggle :
    (portUp 0 (on (port0 5)) = true ∧ ((port0 5).port 0).role = 2 ∧ (port0 5).prd 0 PORT_CTRL.role = 2 ∧
      (port0 5).tc 0 = 5) ∧ (port0 2).tc 0 = 2 := by decide

theorem met_AttachAndSearch_attach :
    let claim : Entry := { Entry.free with st := .tentative, port := 0 }
    let h := ((((port0 6).start 0 .ccDebounce 100).pwr 0 PORT_STATUS.vsafe0 1).setEntry 0 claim).mapPort 0
      fun x => { x with laneB := .rd }
    portUp 0 (on h) = true ∧ h.runs 0 .ccDebounce = true ∧ h.tc 0 = 6 ∧ h.pis 0 PORT_STATUS.vsafe0 = true ∧
      (portEntry h.es 0 [.tentative]).isSome = true ∧ h.autoHeld 0 = false ∧ h.rdLane 0 = some 1 := by decide

theorem met_AttachAndSearch_expiries :
    let run : Nat → Tmr → Hub := fun tc t => (port0 tc).start 0 t 100
    (∀ x ∈ ([(6, .pdDebounce), (3, .pdDebounce), (9, .pdDebounce), (8, .drpTry), (8, .tryTimeout), (9, .tryTimeout)] :
      List (Nat × Tmr)), portUp 0 (on (run x.1 x.2)) = true ∧ (run x.1 x.2).runs 0 x.2 = true ∧ (run x.1 x.2).tc 0 = x.1) := by
  decide

theorem met_AttachAndSearch_seen :
    (∀ tc ∈ [0, 10, 11, 12], portUp 0 (on (port0 tc)) = true ∧ (port0 tc).tc 0 = tc) ∧
      (∀ tc ∈ [5, 2, 3, 9], portUp 0 (on (port0 tc)) = true ∧ (port0 tc).settled = true ∧ (port0 tc).power = .run ∧
        ((port0 tc).port 0).isoA = false ∧ ((port0 tc).port 0).isoB = false ∧ (port0 tc).tc 0 = tc) ∧
      (Term.rd = .rd ∧ Term.ra ≠ .rd) ∧ (isRp .open_ = false ∧ isRp (.rp 3) = true) := by decide

theorem met_PathsAndVconn :
    let v := hub0.pwr 0 VCONN_CTRL.vconn_on 1
    (portUp 0 (on v) = true ∧ v.vconnSource 0 = true) ∧ hub0.vconnGood = true ∧
      ({ hub0 with vconnGood := false } : Hub).vconnGood = false ∧ portUp 15 (on hub0) = true ∧ hub0.present 15 = true := by
  decide

theorem met_VbusAndDetach :
    (∀ t ∈ [Tmr.vbusOn, .detachWindow, .discharge, .rest, .drainHardReset],
      portUp 0 (on (hub0.start 0 t 1)) = true ∧ (hub0.start 0 t 1).runs 0 t = true) ∧
      (portUp 0 (on (port0 7)) = true ∧ (port0 7).tc 0 = 7) ∧
      ((port0 4).tc 0 = 4 ∧ ((port0 4).port 0).swap = none ∧ ((port0 4).port 0).frs = .none ∧ ((port0 4).port 0).hr = .none) ∧
      ((port0 10).tc 0 = 10 ∧ ((port0 10).port 0).drain = .none) := by decide

/-! ### The Sundial and Convoy -/

theorem met_SundialEvents_edges :
    let drive := hub0.wr SUN_CFG.sync_drive 1
    let e : Edge := ⟨0, 0, true⟩
    let seen : Nat → Hub := fun locked => { (hub0.wr SUN_STATUS.locked locked).wr SUN_STATUS.pre_ready 0 with
      sun := { hub0.sun with clk := 6000000, angle := 0x40, ref := some e, acz := some e, inLimit := 1, cardSource := 0 } }
    hub0.up = true ∧ drive.is SUN_CFG.sync_drive = true ∧ hub0.is SUN_CFG.sync_drive = false ∧
      hub0.edgePasses true 0 = false ∧
      ∀ locked ∈ [0, 1], (seen locked).edgePasses true 65535 = true ∧ (seen locked).sun.ref = some e ∧
        (seen locked).sun.acz = some e ∧ (seen locked).wantedSource = 0 ∧
        validInterval ((seen locked).sun.clk - e.clk) = true ∧ ((seen locked).edgePhase true).natAbs ≤ 0x40 ∧
        (seen locked).is SUN_STATUS.pre_ready = false ∧ (seen locked).is SUN_STATUS.locked = (locked == 1) ∧
        1 ≤ (seen locked).sun.inLimit := by decide

theorem met_SundialEvents_return :
    let e : Edge := ⟨0, 0, true⟩
    let back : Hub := { ((hub0.wr SUN_STATUS.locked 1).wr SUN_STATUS.holdover 1).wr SUN_STATUS.pre_ready 0 with
      sun := { hub0.sun with clk := 6000000, angle := 0x2000, ref := some e, acz := some e, cardSource := 0 } }
    back.edgePasses true 65535 = true ∧ back.wantedSource = 0 ∧ validInterval (back.sun.clk - e.clk) = true ∧
      back.is SUN_STATUS.holdover = true ∧ 0x1000 < (back.edgePhase true).natAbs ∧
      back.is SUN_STATUS.pre_ready = false := by decide

theorem met_SundialEvents_times :
    let e : Edge := ⟨0, 0, true⟩
    let run : Nat → Hub := fun n => { ((hub0.wr SUN_STATUS.locked 1).wr SUN_STATUS.active 0).wr SUN_STATUS.unlocked 0 with
      sun := { hub0.sun with ticks := n, ref := some e } }
    let due := hub0.setSlot 31 0 0
    ((run 0x20000).up = true ∧ (run 0x20000).is SUN_STATUS.locked = true ∧ (run 0x20000).rd SUN_STATUS.active ≠ 2 ∧
        (run 0x20000).windowEmpty = true) ∧ (run 0).windowEmpty = false ∧ mainsGone.lossDue = true ∧
      ((run 0).holdSpent = false ∧ (run 1000000000).is SUN_STATUS.unlocked = false ∧ (run 1000000000).holdSpent = true ∧
        (run 1000000000).lossDue = false) ∧
      (5 ≤ (31 : Fin 32).val ∧ due.slotDue 31 = true ∧ due.slotDue 30 = false) ∧
      (lastTick.sun.cycle = 0xFFFFFFFF ∧ lastTick.sun.angle = 0xFFFF) := by decide

/-- A hub whose Convoy link is enabled, with role `r` and some change of the rack. -/
def racked (r : Nat) (f : RackH → RackH) : Hub := ((hub0.wr CONV_LINK.link_en 1).wr CONV_RACK.role r).mapRack f

/-- A sender at hub 3 of this hub's own site. -/
def peer : Sender := { site := 0, hub := 3, serial := 0x000123 }

/-- An empty summary. -/
def demand0 : Demand := { held := 0, floor := 0, want := 0, urgent := 0, lim := 0, scheduled := false }

/-- Member 3 is `peer`. -/
def knows (fresh : Bool) (r : RackH) : RackH :=
  { r with members := r.members.set 3 (some ⟨some 0x000123, demand0, fresh, false⟩), collecting := true }

theorem met_ConvoyLink_frames :
    let f : QFrame := ⟨.hello, 0x10, 1, []⟩
    let q : Nat → Nat → Hub := fun tries lost => racked 2 fun r => { r with queue := [f], retries := tries, losses := lost }
    ((q 0 0).up = true ∧ (q 0 0).is CONV_LINK.link_en = true ∧ (q 0 0).rack.queue = f :: []) ∧
      ((q 2 0).rack.retries < 3 ∧ 3 ≤ (q 3 0).rack.retries) ∧ ((q 0 14).rack.losses < 15 ∧ 15 ≤ (q 0 15).rack.losses) ∧
      (1 : BitVec 8) ≠ 0 ∧ DiscardCause.cutShort ≠ .badPec ∧
      (hub0.wr CONV_STATUS.bus_stuck 1).is CONV_STATUS.bus_stuck = true := by decide

theorem met_ConvoyLink_messages :
    let m : FwMsg := ⟨1, false, 32, []⟩
    let held : Nat → Hub := fun n => racked 2 fun r => { r with rx := List.replicate n m }
    let w : Hub := { (hub0.wr HOST_STATUS.whistle_pending 1).wr HOST_CFG.whistle_en 1 with whistled := some 0, sun := { hub0.sun with clk := 76500000 } }
    (0x20 ≤ (0x3F : BitVec 8).toNat ∧ (0x3F : BitVec 8).toNat ≤ 0x3F ∧ 3 ≤ (List.replicate 32 (0 : Byte)).length ∧
        (List.replicate 32 (0 : Byte)).length ≤ 32 ∧ ¬ 0x20 ≤ (0x1F : BitVec 8).toNat) ∧
      ((held 1).up = true ∧ (held 1).is CONV_LINK.link_en = true ∧ (held 1).rack.rx.length < 2 ∧
        (held 1).restarting = false) ∧ 2 ≤ (held 2).rack.rx.length ∧
      (w.power = .run ∧ w.is HOST_STATUS.whistle_pending = true ∧ w.is HOST_CFG.whistle_en = true ∧ w.whistleDue = true) ∧
      hub0.is HOST_STATUS.whistle_pending = false := by decide

theorem met_RackMembership :
    let alone : Hub := { (racked 1 id).wr CONV_RACK.may_lead 1 with
      sun := { hub0.sun with ticks := 0x400000, readyTick := some 0, cycle := 128 } }
    let refused : Hub := { racked 4 id with sun := { hub0.sun with cycle := 128 } }
    let late : Hub → Hub := fun h => { h with sun := { h.sun with cycle := 2 } }
    let full := racked 3 fun r => { knows true r with members := r.members.set 3 (some ⟨some 0x000999, demand0, true, false⟩) }
    let lead := racked 3 fun r => { knows true r with handover := some 3 }
    let taker := racked 2 fun r => { r with takeLead := true }
    alone.up = true ∧ alone.is CONV_LINK.link_en = true ∧
      (alone.role = 1 ∧ alone.is CONV_RACK.may_lead = true ∧ alone.rack.pollHeard = false ∧ alone.rack.syncTick = none ∧
        alone.power = .run ∧ alone.roundsSinceReady (3 + alone.hubField) = true) ∧
      (lead.role = 3 ∧ (1 : Fin 16).val ≠ lead.card.siteRack % 16) ∧
      (full.role = 3 ∧ peer.site.val = full.card.siteRack % 16 ∧
        full.rack.members[peer.hub] = some ⟨some 0x000999, demand0, true, false⟩ ∧ (0x000999 : BitVec 24) ≠ peer.serial) ∧
      (lead.rack.members[peer.hub] = some ⟨some peer.serial, demand0, true, false⟩) ∧
      (lead.rack.members[(9 : Fin 16)] = none ∧ lead.rack.handover = some 3 ∧
        (late lead).ahead ((late lead).rack.roundCycle + 1) 0 = false) ∧
      (alone.role ≠ 0 ∧ alone.role ≠ 3) ∧ (refused.role = 4 ∧ 128 ≤ (refused.sun.cycle - refused.rack.refusedAt).toNat) ∧
      (taker.role = 2 ∧ taker.rack.takeLead = true ∧ (late taker).ahead ((late taker).rack.roundCycle + 2) 0 = false) := by
  decide

theorem met_BudgetRounds_leader :
    let lead : Hub := { racked 3 (knows true) with sun := { hub0.sun with angle := 0x0400 } }
    let busy := racked 3 (knows false)
    let over_ : Hub := { racked 3 (knows true) with sun := { hub0.sun with angle := 0xE000 } }
    lead.up = true ∧ lead.is CONV_LINK.link_en = true ∧
      (lead.role = 3 ∧ lead.sun.cycle.toNat % 2 = 0 ∧ 0x0400 ≤ lead.sun.angle.toNat ∧
        (lead.mapRack fun r => { r with roundCycle := 0xFFFFFFFE }).rack.roundCycle ≠ lead.sun.cycle ∧
        (List.finRange 16).all (fun k => (lead.rack.members[k]).all fun m => !m.leaving) = true) ∧
      (over_.role = 3 ∧ over_.rack.collecting = true ∧ over_.ahead over_.rack.roundCycle 0xE000 = false ∧
        (List.finRange 16).all (fun k => (over_.rack.members[k]).all fun m => m.fresh) = true) ∧
      (busy.role = 3 ∧ busy.rack.collecting = true ∧ busy.ahead busy.rack.roundCycle 0xE000 = true ∧ (0 : BitVec 16).toNat = busy.rd CONV_ROUND.round ∧
        busy.rack.members[peer.hub] = some ⟨some peer.serial, demand0, false, false⟩) := by decide

theorem met_BudgetRounds_member :
    let in_ := (racked 2 fun r => { r with roundCycle := 0 }).wr CONV_RACK.leader 3
    let twice := in_.wr CONV_RACK.missed 2
    let late : Hub → Hub := fun h => { h with sun := { h.sun with cycle := 9 } }
    let kept := (((racked 5 fun r => { r with ownDemand := some demand0 }).wr RACK_SHARE.valid 1).wr CONV_CFG.share_hold 12).wr
      CONV_RACK.missed 15
    (in_.role = 2 ∧ in_.power = .run) ∧
      ((0 : BitVec 16).toNat = in_.rd CONV_ROUND.round ∧ peer.hub.val = in_.rd CONV_RACK.leader ∧
        in_.ahead (in_.rack.roundCycle + 1) 0 = true ∧ in_.hubField / 8 = false.toNat ∧
        (1 : BitVec 8).getLsbD (in_.hubField % 8) = true) ∧
      (in_.roundMissed = false ∧ (late in_).roundMissed = true ∧ (late in_).role = 2 ∧ (late in_).rd CONV_RACK.missed < 2) ∧
      ((late twice).role = 2 ∧ (late twice).roundMissed = true ∧ twice.rd CONV_RACK.missed = 2 ∧
        (twice.wr CONV_RACK.may_lead 0).is CONV_RACK.may_lead = false) ∧
      (kept.role = 5 ∧ 3 + kept.rd CONV_CFG.share_hold ≤ kept.rd CONV_RACK.missed ∧ kept.is RACK_SHARE.valid = true ∧
        kept.rack.ownDemand = some demand0) := by decide

/-- A round is counted as missed once, and the next one two cycles later (R545): at cycle 9 and 11 after the SHARE of
cycle 6. -/
theorem test_round_missed_once :
    let at_ : Nat → Hub → Hub := fun c h => { h with sun := { h.sun with cycle := BitVec.ofNat 32 c } }
    let h := racked 2 fun r => { r with roundCycle := 6, shareSeen := true }
    let one := (at_ 9 h).missRound
    (at_ 8 h).roundMissed = false ∧ (at_ 9 h).roundMissed = true ∧ one.roundMissed = false ∧
      (at_ 10 one).roundMissed = false ∧ (at_ 11 one).roundMissed = true := by decide

/-! ### Stages, pass switches, Bivouac mode, start and power modes -/

theorem met_StagesAndReadings :
    let st : Nat → Nat → Hub := fun stage mode => (hub0.setStage 0 stage).pwr 0 STAGE_CTRL.mode mode
    let wait : Hub := (st stEqualise 2).mapPort 0 fun x => { x with frs := .signalling }
    portUp 0 (on hub0) = true ∧ ((3 : Fin 4).val < hub0.part.quads ∧ hub0.qrd 3 HK_STATUS.ref_bad = 0) ∧
      ((st stRamp 1).stage 0 = stRamp ∧ (st stRegulate 1).stage 0 = stRegulate ∧ (st stLimit 1).stage 0 = stLimit) ∧
      ((st stDrain 2).stage 0 = stDrain ∧ (st stDrain 2).prd 0 STAGE_CTRL.mode = 2) ∧
      ((st stEqualise 2).stage 0 = stEqualise ∧ ((st stEqualise 2).port 0).frs ≠ .signalling ∧
        (st stEqualise 2).runs 0 .frsVbus = false) ∧
      (wait.stage 0 = stEqualise ∧ (wait.port 0).frs = .signalling) ∧
      ((st stDrain 0).stage 0 = stDrain ∧ (st stDrain 0).prd 0 STAGE_CTRL.mode ≠ 2) := by decide

theorem met_StageProtections :
    let fed : Nat → Hub := fun tc => ((((port0 tc).setStage 0 stRegulate).pwr 0 PASS_STATUS.cmd_on 1).pwr 0 PASS_STATUS.state 2).mapPort 0
      fun x => { x with vsetEff := 330, vFrom := 330 }
    let ntc := hub0.pwr 0 STAGE_CFG.ntc_fitted 1
    let lim : Nat → Hub := fun kind => ((fed 7).setStage 0 stLimit).pwr 0 STAGE_CTRL.cl_kind kind
    (∀ tc ∈ [7, 4], portUp 0 (on (fed tc)) = true ∧ (fed tc).stage 0 ≠ stOff ∧ (fed tc).forward 0 = true ∧
      (fed tc).prd 0 PASS_STATUS.state = 2 ∧ 330 ≤ (fed tc).vnow 0 ∧ (fed tc).uvpUnder 0 0 = true ∧
      (fed tc).ovpLimit 0 < (0xFFFF : BitVec 16).toNat ∧ (0 : BitVec 16).toNat ≤ (fed tc).ovpLimit 0) ∧
      (fed 7).tc 0 = 7 ∧ (fed 4).tc 0 ≠ 7 ∧ (fed 7).stage 0 ≠ stLimit ∧
      (∀ kind ∈ [0, 1, 2], (lim kind).stage 0 = stLimit ∧ (lim kind).prd 0 STAGE_CTRL.cl_kind = kind) ∧
      (fed 7).stage 0 = stRegulate ∧ (hub0.setStage 0 stEqualise).stage 0 = stEqualise ∧
      ntc.pis 0 STAGE_CFG.ntc_fitted = true := by decide

theorem met_PassSwitch :
    let sw : Nat → Nat → Nat → Hub := fun tc state stage =>
      (((port0 tc).pwr 0 PASS_STATUS.cmd_on 1).pwr 0 PASS_STATUS.state state).setStage 0 stage
    (∀ state ∈ [1, 3], portUp 0 (on (sw 7 state stRegulate)) = true ∧ (sw 7 state stRegulate).pis 0 PASS_STATUS.cmd_on = true ∧
      (sw 7 state stRegulate).prd 0 PASS_STATUS.state = state ∧ (sw 7 state stRegulate).stage 0 ≠ stEqualise ∧
      (sw 7 state stEqualise).stage 0 = stEqualise) ∧ (sw 7 1 stRegulate).tc 0 = 7 ∧ (sw 4 1 stRegulate).tc 0 ≠ 7 ∧
      hub0.pis 0 PASS_STATUS.cmd_on = false ∧ hub0.part.absentSource 0 = false ∧
      (let budget := (hub0.pwr 0 PASS_CTRL.auto_limit 0).pwr 0 PASS_SOA.soa_budget 5
       let calm := budget.pwr 0 PASS_LIMIT.limit 1000
       calm.fastHolds 0 = false ∧ (budget.pwr 0 PASS_LIMIT.limit 0).fastHolds 0 = true ∧ calm.soaHolds 0 = false ∧
         (calm.mapPort 0 fun x => { x with soa := 500000000 }).soaHolds 0 = true ∧
         (calm.mapPort 0 fun x => { x with soa := 500000000 }).fastHolds 0 = false) ∧
      ∀ t ∈ [Tmr.inrush, .gate, .leakStep, .leak], (hub0.start 0 t 1).runs 0 t = true := by decide

theorem met_BivouacMode :
    let trig := (hub0.wr BIVOUAC_CFG.vhub_island 100).wr BIVOUAC_CTRL.bivouac_en 1
    let off := trig.wr BIVOUAC_CTRL.bivouac_en 0
    let sig := hub0.mapPort 0 fun x => { x with frs := .signalling }
    let vbus := hub0.start 0 .frsVbus 2000
    let back : Hub := { ((hub0.wr BIVOUAC_CTRL.exit_auto 1).wr SUN_CFG.acz_wired 1).wr BIVOUAC_STATUS.phase 2 with
      returnPending := true, returnedClk := 0, sun := { hub0.sun with clk := 80000000000 } }
    portUp 0 (on trig) = true ∧
      (trig.is BIVOUAC_CFG.vhub_island = true ∧ (trig.stamp 24).mayEnter = true) ∧
      (off.is BIVOUAC_CFG.vhub_island = true ∧ (off.stamp 24).mayEnter = false) ∧
      (hub0.wr BIVOUAC_CFG.vhub_island 0).is BIVOUAC_CFG.vhub_island = false ∧ (sig.port 0).frs = .signalling ∧
      (vbus.runs 0 .frsVbus = true ∧ vbus.pis 0 STAGE_STATUS.node_ready = false ∧
        (vbus.pwr 0 STAGE_STATUS.node_ready 1).pis 0 STAGE_STATUS.node_ready = true) ∧
      (hub0.start 0 .frsMsg 20000).runs 0 .frsMsg = true ∧
      (back.returnDue = true ∧ hub0.returnDue = false ∧ back.is BIVOUAC_CTRL.exit_auto = true ∧ back.is SUN_CFG.acz_wired = true ∧
        back.islanded = true) ∧ (back.wr BIVOUAC_CTRL.exit_auto 0).is BIVOUAC_CTRL.exit_auto = false := by decide

theorem met_StartSequence :
    let wait : Nat → Nat → Nat → Hub := fun step locked active =>
      ((({ hub0 with startClk := 0, sun := { hub0.sun with clk := 36000000 } } : Hub).wr SYS_STATUS.last_step step).wr
        SUN_STATUS.locked locked).wr SUN_STATUS.active active
    let job : Hub := { hub0 with fw := { hub0.fw with cardJob := .cardErase true } }
    (State.reset.hub.power = .reset ∧ hub0.power ≠ .reset ∧ hub0.up = true) ∧
      (∀ step ∈ [11, 12], (wait step 0 0).awaitsReady = true ∧ (wait step 0 0).is SUN_STATUS.locked = false ∧
        (wait step 0 0).rd SUN_STATUS.active ≠ 2 ∧ (wait step 0 0).part.absentSource 31 = false ∧
        (wait step 0 0).startClk + 36000000 ≤ (wait step 0 0).sun.clk) ∧
      ((wait 12 1 0).awaitsReady = true ∧ (wait 12 1 0).is SUN_STATUS.locked = true) ∧
      ((wait 12 0 2).awaitsReady = true ∧ (wait 12 0 2).rd SUN_STATUS.active = 2) ∧
      (hub0.wr SYS_STATUS.ready 1).is SYS_STATUS.ready = true ∧ job.fw.cardJob = .cardErase true := by decide

theorem met_PowerModes :
    let idle : Hub := { hub0.wr SYS_MODE.watch_auto 1 with attachedClk := 0, sun := { hub0.sun with clk := 80000000000 } }
    let busy := idle.wr HOST_STATUS.busy 1
    let watch : Hub := { port0 12 with power := .watch }
    let ship : Hub := { (hub0.wr WAKE_CFG.wake_vbus 1) with power := .ship }
    let going := (((hub0.wr SYS_STATUS.last_step 13).wr SYS_STATUS.ready 0).wr SYS_MODE.mode_result 1)
    (idle.present 0 = true ∧ idle.power = .run ∧ idle.is SYS_MODE.watch_auto = true ∧ (∀ q, idle.attached q = false) ∧
        idle.attachedClk + idle.rd WAKE_CFG.watch_idle * 300000000 ≤ idle.sun.clk ∧ idle.mayWatch = true) ∧ ((∀ q, busy.attached q = false) ∧ busy.mayWatch = false) ∧
      (watch.power = .watch ∧ watch.tc 0 = tcWatch ∧ watch.prd 0 PORT_CTRL.role ≠ 1) ∧
      (ship.power = .ship ∧ ship.wakeEnabled (.vbus 1) = true) ∧ ResetCause.ship ≠ .vdd33 ∧
      (going.up = true ∧ going.shipping = true ∧ going.allDark = true) := by decide +kernel

/-! ### PD messaging -/

/-- A 5 V, 3 A object. -/
def pdo5 : Pdo := Pdo.fiveVolt

/-- A request for object 1 at 1 A. -/
def rdo1 : Rdo :=
  { raw := 0x10019064, pos := 1, opCur := 1000, maxCur := some 1000, volt := 0, mismatch := false, eprCapable := false,
    copied := none }

/-- A deal for object 1 at 500 10-mV units. -/
def deal (volt : Nat) (raise : Bool) : Deal :=
  { rdo := rdo1, pdo := pdo5, epr := false, volt := volt, amp := 1000, power := 50, raise := raise }

theorem met_FramesReceived :
    let h := talking 7
    let full := h.mapPort 0 fun x => { x with ringCount := 8 }
    let again := h.mapPort 0 fun x => { x with rxId := some 1 }
    let part : RxFrame := { frame0 with extended := true, chunked := true, moreChunks := true }
    portUp 0 (on h) = true ∧ h.attached 0 = true ∧ (h.port 0).pdOn = true ∧ ({ frame0 with rev := .rev1 } : RxFrame).rev = .rev1 ∧
      (frame0.rev ≠ .rev1 ∧ ({ frame0 with sop := .dbg } : RxFrame).sop = .dbg ∧ ({ frame0 with sop := .sopPP } : RxFrame).sop = .sopPP ∧
        frame0.sop = .sop) ∧
      (full.attached 0 = true ∧ 8 ≤ (full.port 0).ringCount) ∧
      ((again.port 0).ringCount < 8 ∧ (again.port 0).rxId = some frame0.id) ∧
      ((h.port 0).ringCount < 8 ∧ (h.port 0).rxId ≠ some part.id ∧ part.extended = true ∧ part.chunked = true ∧
        part.moreChunks = true) ∧ h.takes 0 frame0 = true ∧
      ((h.mapPort 0 fun x => { x with ringCount := 7 }).takes 0 frame0 = true) := by decide

theorem met_MessagesAnswered :
    (portUp 0 (on (talking 7)) = true ∧ (talking 7).takes 0 frame0 = true ∧
        ((talking 7).took 0 frame0).pis 0 PD_STATUS.power_role = true) ∧
      (portUp 0 (on (talking 4)) = true ∧ (talking 4).takes 0 frame0 = true ∧
        ((talking 4).took 0 frame0).pis 0 PD_STATUS.power_role = false) := by decide +kernel

theorem met_RequestsAnswered :
    let offer : Hub → Hub := fun h => h.mapPort 0 fun x => { x with acked := [pdo5] }
    let g := (offer (talking 7)).took 0 frame0
    let bad := (talking 7).took 0 frame0
    let late := ((talking 7).pwr 0 PD_STATUS.in_transition 1).took 0 frame0
    let hr := ((talking 7).mapPort 0 fun x => { x with hr := .off }).took 0 frame0
    let none_ : RdoSoFar := ⟨none, none, none, none⟩
    let spec := (talking 7).pwr 0 PD_CTRL.spec_enable 1
    (offer (talking 7)).takes 0 frame0 = true ∧ ((talking 4).took 0 frame0).isSource 0 = false ∧
      (hr.isSource 0 = true ∧ (hr.port 0).hr ≠ .none) ∧
      (late.isSource 0 = true ∧ (late.port 0).hr = .none ∧ late.pis 0 PD_STATUS.in_transition = true) ∧
      (g.isSource 0 = true ∧ (g.port 0).hr = .none ∧ (g.port 0).pending = none ∧ g.pis 0 PD_STATUS.in_transition = false ∧
        g.runs 0 .senderResponse = false ∧ g.runs 0 .pps = false ∧ rdo1.eprCapable = false ∧ (g.port 0).spec = none ∧
        portEntry g.es 0 [.tentative, .waiting] = none ∧ requestValid (g.port 0).acked (g.eprMode 0) false rdo1 = true ∧
        (g.dealOf 0 false rdo1).isSome = true) ∧
      requestValid (bad.port 0).acked (bad.eprMode 0) false rdo1 = false ∧
      ((talking 7).pwr 0 PD_CTRL.spec_enable 0).pis 0 PD_CTRL.spec_enable = false ∧
      ((spec.port 0).prevRdo = none ∧ spec.tc 0 = 7 ∧ spec.isSource 0 = true ∧ (spec.port 0).pdOn = true ∧
        spec.pis 0 PD_CTRL.spec_enable = true ∧ (spec.port 0).spec = none ∧ portEntry spec.es 0 [.tentative] = none ∧
        (spec.port 0).pending = none ∧ spec.pis 0 PD_STATUS.in_transition = false ∧ spec.autoHeld 0 = false ∧
        visiblyInvalid (spec.port 0).acked (spec.eprMode 0) none_ = false) ∧
      visiblyInvalid (spec.port 0).acked (spec.eprMode 0) { none_ with pos := some 0 } = true := by
  decide +kernel

theorem met_PartnerDataStored :
    portUp 0 (on (talking 4)) = true ∧ (talking 4).takes 0 frame0 = true ∧ (2 : Fin 4).val ≠ 3 ∧
      ((talking 7).took 0 frame0).isSource 0 = true ∧ ((talking 7).took 0 frame0).prd 0 PD_STATUS.ams ≠ 5 := by decide +kernel

theorem met_RepliesReceived :
    let ask := ((talking 4).mapPort 0 fun x => { x with awaiting := some (.request 0) }).took 0 frame0
    let old := ((talking 4).mapPort 0 fun x => { x with stale := true }).took 0 frame0
    let rdy := (((talking 4).mapPort 0 fun x => { x with asked := some (deal 900 true) }).start 0 .sinkPsRdy 1).took 0 frame0
    let plain := (talking 4).took 0 frame0
    (talking 4).takes 0 frame0 = true ∧ ((ask.port 0).stale = false ∧ (ask.port 0).awaiting = some (.request 0)) ∧
      (old.port 0).stale = true ∧
      ((plain.port 0).stale = false ∧ (plain.port 0).awaiting = none ∧ (plain.port 0).swap = none ∧ (plain.port 0).frs = .none ∧
        plain.runs 0 .sinkPsRdy = false ∧ (plain.port 0).pending = none ∧ plain.pis 0 PD_STATUS.in_transition = false) ∧
      ((rdy.port 0).swap = none ∧ (rdy.port 0).frs = .none ∧ rdy.runs 0 .sinkPsRdy = true ∧
        (rdy.port 0).asked = some (deal 900 true)) ∧
      (((talking 4).pwr 0 PD_STATUS.in_transition 1).took 0 frame0).pis 0 PD_STATUS.in_transition = true ∧
      ((talking 4).port 0).pdOn = true ∧ (((talking 4).mapPort 0 fun x => { x with pdOn := false }).port 0).pdOn = false := by
  decide +kernel

theorem met_HardResets :
    hub0.present 15 = true ∧ hub0.attached 0 = false ∧ ((talking 7).attached 0 = true ∧ (talking 7).isSource 0 = true) ∧
      ((talking 4).attached 0 = true ∧ (talking 4).isSource 0 = false) ∧
      ((talking 7).pwr 0 VCONN_CTRL.vconn_on 1).vconnSource 0 = true := by decide

theorem met_TransmissionEnds :
    let tx : Nat → Nat → Hub := fun tries rev => (((talking 7).start 0 .tReceive 1000).pwr 0 PD_STATUS.partner_rev rev).mapPort 0
      fun x => { x with txq := [.psRdy], retries := tries }
    ((tx 0 2).runs 0 .tReceive = true ∧ ((tx 0 2).port 0).txq = Msg.psRdy :: [] ∧ Msg.psRdy ≠ .discoverCable ∧
        ((tx 0 2).port 0).drain ≠ .frame) ∧
      (((tx 1 2).port 0).retries < 2 ∧ 2 ≤ ((tx 2 2).port 0).retries ∧ ((tx 2 1).port 0).retries < 3 ∧
        3 ≤ ((tx 3 1).port 0).retries ∧ (tx 2 1).prd 0 PD_STATUS.partner_rev = 1 ∧ (tx 2 2).prd 0 PD_STATUS.partner_rev ≠ 1) ∧
      ((talking 7).attached 0 = true ∧ ((talking 7).port 0).pdOn = true ∧ (talking 7).vconnSource 0 = false) := by decide

theorem met_SourceTimers :
    (∀ t ∈ [Tmr.chunk, .discover, .srcCaps, .senderResponse, .battery, .pps, .eprSource, .sinkTx, .hrVbusOff, .hrRecover],
      portUp 0 (on ((talking 7).start 0 t 1)) = true ∧ ((talking 7).start 0 t 1).runs 0 t = true) ∧
      (let d := (talking 7).pwr 0 VCONN_CTRL.vconn_on 1
       let tired := (talking 7).mapPort 0 fun x => { x with discTries := 3 }
       (d.port 0).discTries < 3 ∧ (d.port 0).discTotal < 20 ∧ d.vconnSource 0 = true ∧ 3 ≤ (tired.port 0).discTries) ∧
      ((talking 7).isSource 0 = true ∧ (talking 7).explicit 0 = false) ∧
      (((talking 7).mapPort 0 fun x => { x with awaiting := some .softReset }).port 0).awaiting = some .softReset := by decide

theorem met_SinkAndTransitionTimers :
    let wait : Deal → Hub := fun d => (talking 7).mapPort 0 fun x => { x with pending := some d, vsetEff := 900 }
    let asks := (talking 4).mapPort 0 fun x => { x with asked := some (deal 900 false) }
    let moving := (wait (deal 900 true)).pwr 0 PD_STATUS.in_transition 1
    (∀ t ∈ [Tmr.sinkWait, .sinkPps, .lowering, .psRdy, .sinkPsRdy, .sinkEpr, .sinkHr],
      portUp 0 (on ((wait (deal 900 true)).start 0 t 1)) = true ∧ ((wait (deal 900 true)).start 0 t 1).runs 0 t = true) ∧
      (∀ t ∈ [Tmr.sinkWait, .sinkPps], ((asks.start 0 t 1).port 0).asked = some (deal 900 false) ∧
        (asks.start 0 t 1).runs 0 t = true) ∧
      ((wait (deal 900 true)).port 0).pending = some (deal 900 true) ∧ (deal 900 true).raise = true ∧
      (deal 500 false).raise = false ∧ ((wait (deal 500 false)).port 0).pending = some (deal 500 false) ∧
      (moving.pis 0 PD_STATUS.in_transition = true ∧ (moving.port 0).vsetEff = 900 ∧ (moving.port 0).vsetHeld = none ∧
        moving.runs 0 .lowering = false ∧ moving.runs 0 .psRdy = false ∧ (moving.contractTarget 0).1 ≠ 900 ∧
        moving.isSource 0 = true ∧ (moving.port 0).txq = []) ∧
      ((talking 4).pwr 0 PORT_STATUS.vsafe5 0).pis 0 PORT_STATUS.vsafe5 = false ∧
      ((talking 4).pwr 0 PORT_STATUS.vsafe5 1).pis 0 PORT_STATUS.vsafe5 = true := by decide

/-! ### The Hamper, swaps, engines, fault sources, firmware -/

/-- A ledger entry of port 0 in some state. -/
def entry (st : EState) : Entry := { Entry.free with st := st, port := 0 }

theorem met_HamperEvents :
    let ask := (hub0.start 0 .promptHold 1).setEntry 0 { entry .waiting with prompted := true }
    let cut : Bool → Hub := fun ovf => (hub0.start 0 .cutLimit 1).setEntry 0 { entry .committed with overCut := ovf }
    let due : Nat → Hub := fun n => hub0.setSlot n 0 0
    let start : RampStart :=
      { port := 0, kind := .b, at_ := .override, last := .override, override := true, opens := 0, closes := none, due := 5 }
    let wait : RampStart := { start with due := 6 }
    let ovf : RampStart → Hub := fun r =>
      { hub0 with ledger := { hub0.ledger with ramps := [r] }, sun := { hub0.sun with clk := 5 } }
    let shared := (due 3).mapRack fun r => { r with newShare := some 1000 }
    (portUp 0 (on ask) = true ∧ ask.runs 0 .promptHold = true ∧ ask.ledger.undo = [] ∧
        portEntry ask.es 0 [.waiting] = some 0 ∧ ask.es[(0 : Fin 64)].prompted = true) ∧
      (∀ ovf ∈ [true, false], (cut ovf).runs 0 .cutLimit = true ∧ portEntry (cut ovf).es 0 [.committed] = some 0 ∧
        (cut ovf).es[(0 : Fin 64)].overCut = ovf) ∧
      (∀ n ∈ [0, 1, 2, 3], (due n).slotDue n = true) ∧
      ((ovf start).ledger.ramps = [start] ∧ start.port = 0 ∧ start.kind ≠ .c ∧ (ovf start).clockDue start = true ∧
        (ovf wait).clockDue wait = false) ∧
      (shared.slotDue 3 = true ∧ shared.rack.newShare = some 1000 ∧ (due 3).rack.newShare = none) ∧
      (((port0 7).wr HAMPER_CTRL.burst_detect 1).is HAMPER_CTRL.burst_detect = true ∧
        ((port0 7).wr HAMPER_CTRL.burst_detect 1).tc 0 = 7 ∧
        ((port0 7).wr HAMPER_CTRL.burst_detect 0).is HAMPER_CTRL.burst_detect = false) := by decide +kernel

theorem met_AuditsRebuildTotals :
    let wrong : Hub := { hub0 with ledger := { hub0.ledger with totals := hub0.ledger.totals.set 20 ⟨1, 0, 0⟩ } }
    (∀ n ∈ hub0.auditNodes, hub0.auditNode n = none) ∧
      ((wrong.auditNodes.filterMap fun k => (wrong.auditNode k).map fun y => (k, y)) = ((20 : Fin 21), (0, 1, 0)) :: [] ∧
        (∀ k ∈ wrong.auditNodes, wrong.unlimited k.val = true ∨ wrong.auditCharge k.val ≤ wrong.nodeLimit k.val) ∧
        wrong.part.absentSource 29 = false ∧ (wrong.wr AUDIT_CAPTURE.valid 0).is AUDIT_CAPTURE.valid = false) := by
  decide +kernel

theorem met_RoleSwaps_requests :
    let own := ((talking 7).mapPort 0 fun x => { x with swap := some ⟨.pr, true, .requested, 0⟩ }).took 0 frame0
    let plain := (talking 7).took 0 frame0
    let yes := (((talking 7).pwr 0 PD_STATUS.contract 2).pwr 0 SWAP_CTRL.dr_policy 1).took 0 frame0
    let no := (((talking 7).pwr 0 PD_STATUS.contract 2).pwr 0 SWAP_CTRL.dr_policy 0).took 0 frame0
    let busy := ((talking 7).pwr 0 PD_STATUS.in_transition 1).took 0 frame0
    let feed := ((talking 7).start 0 .frsMsg 1).took 0 frame0
    (portUp 0 (on (talking 7)) = true ∧ (talking 7).takes 0 frame0 = true) ∧
      (own.ownRequest 0 = true ∧ own.isSource 0 = true) ∧
      (busy.ownRequest 0 = false ∧ busy.swapAnswer 0 .dr = .wait) ∧ (no.ownRequest 0 = false ∧ no.swapAnswer 0 .dr = .reject) ∧
      (yes.ownRequest 0 = false ∧ yes.swapAnswer 0 .dr = .accept ∧ SwapKind.dr ≠ .pr) ∧
      (feed.runs 0 .frsMsg = true ∧ plain.runs 0 .frsMsg = false ∧ (plain.port 0).frs = .none) := by decide +kernel

theorem met_RoleSwaps_steps :
    let wait := ((talking 7).start 0 .swapWait 1).mapPort 0 fun x => { x with swap := some ⟨.pr, true, .granting, 0⟩ }
    let armed := (talking 4).pwr 0 SWAP_STATUS.frs_armed 1
    let rec_ := (talking 4).mapPort 0 fun x => { x with frs := .recognised }
    (wait.runs 0 .swapWait = true ∧ (wait.port 0).swap = some ⟨.pr, true, .granting, 0⟩) ∧
      (∀ t ∈ [Tmr.prSourceOff, .prPsRdy, .vconnReady, .vconnPsRdy], ((talking 7).start 0 t 1).runs 0 t = true) ∧
      portEntry ((talking 7).start 0 .prSourceOff 1).es 0 [.committed] = none ∧
      (armed.tc 0 = 4 ∧ armed.pis 0 SWAP_STATUS.frs_armed = true ∧ (armed.port 0).frs = .none ∧
        portEntry armed.es 0 [.tentative] = none) ∧ (talking 4).pis 0 SWAP_STATUS.frs_armed = false ∧
      ((rec_.port 0).frs = .recognised ∧ portEntry rec_.es 0 [.standby] = none) := by decide

theorem met_EnginesAndMonitors :
    let sups : Nat → Hub := fun st => (hub0.wr ENG_STATUS.state_a st).wr ENG_STATUS.state_b st
    let flask := ((((hub0.wr ENG_STATUS.flask 1).wr ENG_CTRL.flask_restart 1).wr ENG_STATUS.flask_restarted 0).wr
      ENG_STATUS.state_a 3).wr ENG_STATUS.flask_expired 0
    let e : Persist := ⟨⟨0, 0, 0, 0, false⟩, none, 0, 0, 0⟩
    let queued : Hub := { hub0 with flashQueue := [e] }
    let old : Hub → Hub := fun h => { h with sun := { h.sun with clk := 80000000000 } }
    (∀ b ∈ [false, true], (hub0.sun.clk < hub0.supDeadline b) ∧ (old (sups 1)).supDeadline b ≤ (old (sups 1)).sun.clk) ∧
      ((old flask).flaskClk + 3000000 ≤ (old flask).sun.clk ∧
        (old flask).flaskClk + (old flask).rd FLASK_CFG.flask_limit * 300000000 ≤ (old flask).sun.clk) ∧
      ((old hubE).peKick[(0 : Fin 16)] + (old hubE).rd PE_CFG.pe_wdt * 300000 ≤ (old hubE).sun.clk ∧
        hubE.sun.clk < hubE.peKick[(0 : Fin 16)] + hubE.rd PE_CFG.pe_wdt * 300000) ∧
    (∀ b ∈ [false, true], ∀ st ∈ [1, 4, 2], portUp 0 (on (sups st)) = true ∧ (sups st).hasSup b = true ∧
      (sups st).sup b = st ∧ (sups st).power = .run) ∧
      (flask.is ENG_STATUS.flask = true ∧ flask.is ENG_CTRL.flask_restart = true ∧
        flask.is ENG_STATUS.flask_restarted = false ∧ flask.rd ENG_STATUS.state_a = 3 ∧
        flask.is ENG_STATUS.flask_expired = false) ∧
      (hubE.peHalted 0 = false ∧ (hubE.wr PE_STATUS.halted 1).peHalted 0 = true) ∧
      (hub0.wr SCRUB_CTRL.enable 1).is SCRUB_CTRL.enable = true ∧
      (∀ n ∈ [41, 42, 44, 45, 46, 47, 57], hub0.part.absentSource n = false) ∧ queued.flashQueue = e :: [] ∧
      (∀ c : Fin 2, (hub0.wr (CHK_STATUS.busy c) 1).scanning c = true) := by decide

theorem met_LatchesRecord :
    let held := hub0.wr CAP_INFO.valid 1
    hub0.part.absentSource 63 = false ∧ (31 < 32 ∧ 7 < 8) ∧ (63 : Fin 64) ≠ 0 ∧ hub0.is CAP_INFO.valid = false ∧
      held.is CAP_INFO.valid = true ∧ ((hub0.setWord 0x3009 0x30000000).severity 30 = 3) ∧
      ((hub0.setWord 0x3008 0x80000000).severity 15 = 2) ∧ ((hub0.setWord 0x3009 0x10000000).severity 30 = 1) := by decide

/-- A Denoc session in which frame 4 came last. -/
def denoc : Hub := { hub0.wr DENOC_STATUS.session 1 with fw := { hub0.fw with lastSeq := some 4 } }

/-- Slot B, the inactive one, erased and `k` bytes written, with a header that gives `len` bytes. -/
def slotB (k : Nat) (len : Nat) : Hub :=
  { denoc.setBytes 0x080E0008 (leBytes 4 len) with fw := { denoc.fw with writtenB := some k, verifiedB := true } }

theorem met_DenocFrames_order :
    let job : Hub := { denoc with fw := { denoc.fw with job := .verify true 4 } }
    hub0.up = true ∧ hub0.session = false ∧
      (denoc.session = true ∧ denoc.jobSeq = none ∧ denoc.fw.lastSeq = some 4 ∧ (9 : BitVec 8) ≠ 4 ∧ (9 : BitVec 8) ≠ 4 + 1) ∧
      (job.session = true ∧ job.jobSeq = some 4 ∧ (4 : BitVec 8) ≠ 5) ∧ knownType 0 = false ∧ knownType 9 = false ∧
      (denoc.fw.heardClk + 3000000000 ≤ ({ denoc with sun := { denoc.sun with clk := 3000000000 } } : Hub).sun.clk ∧
        denoc.sun.clk < denoc.fw.heardClk + 3000000000) ∧
      denoc.inOrder 5 = true ∧
      ({ denoc with fw := { denoc.fw with lastSeq := none } } : Hub).inOrder 77 = true := by decide

theorem met_DenocFrames_commands :
    let camp := denoc.wr SYS_STATUS.basecamp 1
    let b := slotB 384 256
    let z := slotB 0 256
    let dirty := denoc
    (2 ≤ (2 : BitVec 8).toNat ∧ (1 : BitVec 8) = BitVec.ofNat 8 true.toNat) ∧
      (true = denoc.inactive ∧ denoc.is SYS_STATUS.basecamp = false ∧ false ≠ denoc.inactive ∧
        camp.is SYS_STATUS.basecamp = true ∧ camp.inOrder 5 = true) ∧
      (b.inOrder 5 = true ∧ b.written true = some 384 ∧ 384 = (headerOf ((b.counted 5).slotHeader true)).length + 128 ∧
        b.writeSlot = true ∧ (b.counted 5).mayBook = true ∧ true = b.inactive) ∧
      (dirty.inOrder 5 = true ∧ dirty.written true = none) ∧
      ((slotB 256 256).written true = some 256 ∧ 256 + 8 ≤ (headerOf (((slotB 256 256).counted 5).slotHeader true)).length + 128 ∧
        (slotB 256 256).inOrder 5 = true) ∧ (z.inOrder 5 = true ∧ z.written z.writeSlot = some 0) ∧
      b.outsideWindow 0x7FFFFFFF = false ∧ b.outsideWindow 0x80000000 = true ∧
      (∀ i < 16, denoc.cleanWord (ringRow ((1023 + i / 16) % 1024) + 8 * (i % 16)) = true) ∧
      (1152 ≤ (1152 : BitVec 16).toNat ∧ (30000 : BitVec 16).toNat ≤ 30000) := by decide +kernel

theorem met_FirmwareJobs :
    let jobs : Hub := { hub0.wr FLASH_CMD.flash_busy 1 with fw := { hub0.fw with job := .eraseSlot true 4, flashJob := .erase 0x08000000 } }
    let ver : Hub := { hub0 with fw := { hub0.fw with job := .verify true 4, flashJob := .program 0x08000000 1 2 } }
    let ph : Nat → Hub := fun n => hub0.wr FW_STATUS.phase n
    let fire := (ph 1).setSlot 4 0 0
    let past : Nat → Hub := fun n => { ph n with sun := { hub0.sun with clk := 600000000 } }
    let held := (past 2).wr BIVOUAC_STATUS.phase 1
    (hub0.up = true ∧ jobs.fw.job = .eraseSlot true 4 ∧ jobs.is FLASH_CMD.flash_busy = true ∧
        jobs.fw.flashJob = .erase 0x08000000) ∧
      (ver.fw.job = .verify true 4 ∧ ver.fw.flashJob = .program 0x08000000 1 2 ∧ ver.is FLASH_CMD.flash_busy = false) ∧
      (fire.rd FW_STATUS.phase = 1 ∧ fire.slotDue 4 = true) ∧
      ((ph 2).rd FW_STATUS.phase = 2 ∧ (ph 2).restartBlocked = false) ∧
      (held.rd FW_STATUS.phase = 2 ∧ held.restartBlocked = true ∧ held.fw.firedClk + 600000000 ≤ held.sun.clk) ∧
      (hub0.sun.clk < hub0.fw.stampClk + 600000000) ∧
      (∀ n ∈ [3, 4], (past n).rd FW_STATUS.phase = n ∧ (past n).fw.stampClk + 600000000 ≤ (past n).sun.clk) := by decide

/-! ### Accesses -/

theorem met_WritesJudged :
    State.reset.hub.issues .supA = false ∧ hubE.issues .supA = true ∧
      (hubE.locateWide .supA (regAddr 0x2003) 4 = .hub 0x2003 ∧ (findRow hubRows 0x2003).isSome = true) ∧
      (hubE.locateWide .supA (portAddr 0) 4 = .port 0 0 ∧ (findRow portPortRows 0).isSome = true) ∧
      (hubE.issues (.pe 3) = true ∧ hubE.locateWide (.pe 3) 0x41000000 4 = .port 3 0) ∧
      (hubE.locateWide .supA (regAddr 0xF000) 4 = .own 0xF000 ∧ (findRow masterRows 0xF000).isSome = true) ∧
      hubE.locateWide .supA 0x20000000 4 = .memory 0x20000000 ∧ hubE.mayStore 0x20000000 = true ∧
      (notPe .supA = true ∧ (0x4000031C : Word) = BitVec.ofNat 32 (0x40000310 + 4 * (3 : Fin 4).val)) ∧
      (hubE.locateWide .supA 0x100 4 = .memory 0x100 ∧ hubE.mayStore 0x100 = false) ∧
      hubE.locateWide .supA 0x30000000 4 = .busError ∧ hubE.locateWide .supA 0x20000001 2 = .busError := by decide +kernel

theorem met_MastersViews :
    hubE.present 3 = true ∧ (0x10000000 ≤ (0x10003FFF : Word).toNat ∧ (0x10003FFF : Word).toNat < 0x10004000) ∧
      hubE.locate (.pe 3) 0x41000004 = .port 3 1 ∧ hubE.locate (.pe 3) 0x10003FFF = .memory 0x2101FFFF ∧
      notPe .supA = true := by decide +kernel

theorem met_ReadsAndOwnWrites :
    let e : LogEntry := ⟨1, 2, 3, 4, false⟩
    let logged : Hub := { hubE with logRing := [e] }
    let held := hubE.setSlot 31 1 0
    let gone := hubE.setSlot 31 0 0
    (hubE.issues .supA = true ∧ notPe .supA = true ∧ hubE.present (hubE.portSel .supA) = true ∧ logged.logRing = e :: [] ∧
        hubE.logRing = []) ∧
      (∀ k ∈ [0xF000, 0xF001, 0x1011], hubE.takesOwn .host k 1 = true) ∧ hubE.freeSlot = some 5 ∧
      (0x80000000 ≤ (0x80000000 - hubE.sun.cycle).toNat ∧ (0x7FFFFFFF - hubE.sun.cycle).toNat < 0x80000000) ∧
      (held.takesWrite .supA 0x1012 31 = true ∧ held.slotBusy 31 = true ∧ held.slotAhead 31 = true) ∧
      (gone.takesWrite .supA 0x1012 31 = true ∧ gone.slotBusy 31 = true ∧ gone.slotAhead 31 = false) ∧
      (hubE.takesWrite .supA 0x1012 5 = true ∧ hubE.slotBusy 5 = false) := by decide +kernel

theorem met_HubWrites_plain :
    (∀ x ∈ ([(0x2003, 100), (0x200C, 100), (0x200F, 100), (0x2018, 0x1F), (0x2019, 10), (0x80, 0), (0x3, 1), (0x3, 0xA502),
        (0x9003, 0x5A), (0x9008, 0), (0x9008, 0xFFFF), (0x9016, 0x20000000), (0x3000, 1), (0x3001, 1), (0x3002, 1),
        (0x3003, 1), (0x3004, 0x10000), (0x3005, 1), (0x3008, 0xAAAAAAAA), (0x300B, 0), (0xA00C, 0x10001), (0xB, 1),
        (0x6028, 0x80200003), (0x6038, 0x80000000), (0x8004, 0x80000000), (0x8004, 0x40000000), (0x800B, 1), (0x800B, 2)] :
        List (Nat × Word)), hubE.takesWrite .supA x.1 x.2 = true) ∧
      (let aux := hubE.setEntry 5 { Entry.free with st := .committed, kind := .aux }
       aux.takesWrite .supA 0x2019 0x80050000 = true) := by decide +kernel

theorem met_HubWrites_state :
    let down := (hubE.wr ENG_STATUS.state_a 3).wr ENG_STATUS.state_b 3
    let warm := (hubE.wr SYS_STATUS.warm 1).wr SYS_STATUS.ready 1
    let link := hubE.wr CONV_LINK.link_en 1
    (hubE.takesWrite .supA 0x80 (forced 0x4 0 0) = true ∧ (0 : Word).getLsbD 3 = false) ∧
      hubE.takesWrite .supA 0x80 (forced 0x8 0 0) = true ∧
      (hubE.takesWrite .supA 0x9000 (hubE.word 0x9000 &&& (0 ||| 0xFFFFFFFC)) = true ∧
        (hubE.word 0x9000 &&& (0 ||| 0xFFFFFFFC)).getLsbD 4 = false ∧ hubE.rd ENG_STATUS.state_a = 1) ∧
      down.takesWrite .host 0x9000 (forced 0x10 0 0) = false ∧ down.takesWrite .debug 0x9000 (forced 0x10 0 0) = true ∧
      down.takesWrite .debug 0x9000 (forced 0x20 0 0) = true ∧
      ((hubE.wr ENG_STATUS.state_b 0).takesWrite .supA 0x9000 (forced 0x2 0 1) = true ∧
        (hubE.wr ENG_STATUS.state_b 0).rd ENG_STATUS.state_b = 0) ∧
      (link.takesWrite .supA 0x6000 (forced 0 0x100 (link.word 0x6000)) = true ∧ link.is CONV_LINK.link_en = true) ∧
      hubE.takesWrite .supA 0x8005 (forced 0x1 0 0) = true ∧ warm.takesWrite .supA 0x8005 (forced 0x2 0 0) = true := by
  decide +kernel

theorem met_HubWrites_check :
    let ready := (hubE.wr (CHK_START.start 0) 0x20000000).wr (CHK_LEN.len 0) 4
    let feed := (ready.wr (CHK_CTRL.mode 0) 1).wr (CHK_CTRL.enable 0) 1
    let open_ : Hub := { feed with chans := feed.chans.set 0 ⟨0, 0, true, none⟩ }
    let busy := ready.wr (CHK_STATUS.busy 0) 1
    (ready.takesWrite .supA (chanKey 0 0) (forced 0x2 0x80 1) = true ∧ (1 : Word).getLsbD 2 = false) ∧
      ready.takesWrite .supA (chanKey 0 0) (forced 0x82 0 1) = true ∧
      (open_.takesWrite .supA (chanKey 0 0) (forced 0x4 0 0x81) = true ∧ (0x81 : Word).getLsbD 1 = false ∧
        open_.scanning 0 = false) ∧
      (busy.takesWrite .supA (chanKey 0 0) (forced 0 0x3 0) = true ∧ busy.scanning 0 = true) ∧
      (feed.is (CHK_CTRL.mode 0) = true ∧ feed.is (CHK_CTRL.enable 0) = true ∧
        feed.takesWrite .supA (chanKey 0 0xD) 0xFFFFFFFF = true ∧ feed.takesWrite .supA (chanKey 0 0xE) 0xFF = true) := by
  decide +kernel

theorem met_PortWrites :
    (∀ x ∈ ([(0x0, 0), (0x0, 1), (0x0, 0x80), (0x24, 1), (0x24, 2), (0x24, 3), (0x28, 0x142896), (0x2A, 500), (0x2B, 1000), (0x29, 0),
        (0x29, 1), (0x29, 2), (0x29, 8), (0x29, 0x200), (0x33, 1), (0x37, 1), (0x38, 0x80), (0x38, 0), (0x38, 1), (0x40, 1)] :
        List (Nat × Word)), hubE.takesPort .supA x.1 x.2 = true) ∧ hubE.takesPort (.pe 3) 0x2A 500 = true := by decide +kernel

theorem met_ClaimWrites :
    let held := hubE.setEntry 0 { entry .tentative with port := 3, spec := true }
    let ring := hubE.mapPort 3 fun x => { x with ringCount := 1 }
    let warm : Hub := hubE.wr FW_STATUS.phase 3
    (([0x60000000, 0xA0000000, 0x20000000, 0x40000000] : List Word).all fun v => hubE.takesClaim 3 0x0 v) = true ∧
      held.takesClaim 3 0x0 0x80000000 = true ∧ held.takesClaim 3 0x2 0x40000000 = true ∧
      held.takesClaim 3 0x2 0x80000000 = true ∧ ring.takesClaim 3 0x6 1 = true ∧ hubE.takesClaim 3 0x7 0xB = true ∧
      hubE.takesClaim 3 0x3F 0x5A = true ∧ warm.takesClaim 3 0x8 warm.fw.stampSeq = true := by decide +kernel

theorem met_HostTransactions :
    let h := hub0.wr SYS_STATUS.last_step 7
    (h.up = true ∧ h.hostListens = true) ∧ h.hostKnows 5 = false ∧ h.is SYS_STATUS.basecamp = false ∧
      ((h.wr HOST_CFG.pec_required 1).is HOST_CFG.pec_required = true ∧
        (h.wr HOST_CFG.pec_required 0).is HOST_CFG.pec_required = false) ∧
      (1 ≤ (8 : BitVec 8).toNat ∧ (8 : BitVec 8).toNat ≤ 8 ∧ (0 : BitVec 8).toNat = 0 ∧ 8 < (9 : BitVec 8).toNat) ∧
      (pec [0x50, 8, 1] ≠ (0 : Byte) ∨ pec [0x50, 8, 1] ≠ (1 : Byte)) ∧
      ((33 : BitVec 8).toNat % 4 ≠ 0 ∧ 32 < (36 : BitVec 8).toNat ∧ (0 : BitVec 8).toNat = 0) ∧
      ((32 : BitVec 8).toNat = 4 * (List.replicate 8 (0 : Word)).length ∧ (List.replicate 8 (0 : Word)).length ≤ 8) := by decide +kernel

end Sys2Proof.Tests
end

/-! The instructions of chapter 11 that compute, that meet a bound of the data stack, or that steer their engine: what the
model's operations compute, what an issued instruction does, and the statements about them. -/

namespace Sys2Proof.Machine

/-! ### What the arithmetic of R417–R424 computes -/

/-- A signed comparison as a result (R417). -/
theorem ofBool_slt (a b : Word) : ofBool (a.slt b) = if a.toInt < b.toInt then 1 else 0 := by
  simp only [ofBool, BitVec.slt_eq_decide, decide_eq_true_eq]

/-- An unsigned comparison as a result (R417). -/
theorem ofBool_ult (a b : Word) : ofBool (a.ult b) = if a.toNat < b.toNat then 1 else 0 := by
  simp only [ofBool, BitVec.ult_eq_decide, decide_eq_true_eq]

/-- Extending an immediate by its sign keeps its value (R419). -/
theorem sext_toInt (v : BitVec 16) : (sext v).toInt = v.toInt :=
  BitVec.toInt_signExtend_of_le (by decide)

/-- Saturation cuts a result to the signed range (R424). -/
theorem saturate_eq (x : Int) : saturate x = BitVec.ofInt 32 (max (-0x80000000) (min 0x7FFFFFFF x)) := by
  unfold saturate
  split
  · rw [Int.min_eq_left (by omega)]; rfl
  · rw [Int.min_eq_right (by omega)]
    split
    · rw [Int.max_eq_left (by omega)]; rfl
    · rw [Int.max_eq_right (by omega)]

/-- A product of words, cut to a word, is the low half of their 64-bit product (R420). -/
theorem mul_eq_low (a b : Word) : a * b = (a.setWidth 64 * b.setWidth 64).extractLsb' 0 32 := by
  rw [← BitVec.setWidth_eq_extractLsb' (by decide), BitVec.setWidth_mul _ _ (by decide)]
  simp only [BitVec.setWidth_setWidth_of_le _ (show 32 ≤ 64 by decide), BitVec.setWidth_eq]

/-- The signed 64-bit product of two words is exact. -/
theorem mul_signExtend_eq (a b : Word) :
    a.signExtend 64 * b.signExtend 64 = BitVec.ofInt 64 (a.toInt * b.toInt) := by
  rw [BitVec.ofInt_mul, ← BitVec.toInt_signExtend_of_le (x := a) (show 32 ≤ 64 by decide),
    ← BitVec.toInt_signExtend_of_le (x := b) (show 32 ≤ 64 by decide), BitVec.ofInt_toInt, BitVec.ofInt_toInt]

/-- The high half of a signed product (R418). -/
theorem mulHigh_eq (a b : Word) : mulHigh a b = (a.signExtend 64 * b.signExtend 64).extractLsb' 32 32 := by
  rw [mul_signExtend_eq, mulHigh]
  generalize a.toInt * b.toInt = p
  refine BitVec.eq_of_toNat_eq ?_
  simp only [BitVec.toNat_ofInt, BitVec.extractLsb'_toNat, Nat.shiftRight_eq_div_pow]
  omega

/-- The high half of an unsigned product (R418). -/
theorem mulHighU_eq (a b : Word) : mulHighU a b = (a.setWidth 64 * b.setWidth 64).extractLsb' 32 32 := by
  have hp : a.toNat * b.toNat < 2 ^ 64 := 
    calc a.toNat * b.toNat < 2 ^ 32 * 2 ^ 32 := Nat.mul_lt_mul'' a.isLt b.isLt
      _ = 2 ^ 64 := by decide
  refine BitVec.eq_of_toNat_eq ?_
  simp only [mulHighU, BitVec.toNat_ofNat, BitVec.extractLsb'_toNat, BitVec.toNat_mul,
    BitVec.toNat_setWidth_of_le (show 32 ≤ 64 by decide), Nat.mod_eq_of_lt hp, Nat.shiftRight_eq_div_pow]

/-- The signed quotient (R421, R422). -/
theorem quot_eq (a b : Word) : quot a b = if b = 0 then 0xFFFFFFFF else a.sdiv b := by
  have hq : BitVec.ofInt 32 (a.toInt.tdiv b.toInt) = a.sdiv b :=
    BitVec.eq_of_toInt_eq (by rw [BitVec.toInt_ofInt, BitVec.toInt_sdiv])
  rw [quot, hq]

/-- The unsigned quotient (R422). -/
theorem quotU_eq (a b : Word) : quotU a b = if b = 0 then 0xFFFFFFFF else a / b := by
  have hq : BitVec.ofNat 32 (a.toNat / b.toNat) = a / b := by
    rw [← BitVec.toNat_udiv, BitVec.ofNat_toNat, BitVec.setWidth_eq]
  rw [quotU, hq]

/-- The remainder of a signed division (R421, R422). -/
theorem remS_eq (a b : Word) : remS a b = if b = 0 then a else a.srem b := by
  have hr : BitVec.ofInt 32 (a.toInt.tmod b.toInt) = a.srem b := by
    rw [← BitVec.toInt_srem, BitVec.ofInt_toInt]
  rw [remS, hr]

/-- The remainder of an unsigned division (R422). -/
theorem remU_eq (a b : Word) : remU a b = if b = 0 then a else a % b := by
  have hr : BitVec.ofNat 32 (a.toNat % b.toNat) = a % b := by
    rw [← BitVec.toNat_umod, BitVec.ofNat_toNat, BitVec.setWidth_eq]
  rw [remU, hr]

/-- SAR by the sign of its operand (R423). -/
theorem shiftSign_eq (a b : Word) :
    shiftSign a b = if 32 ≤ b.toNat then (if 0 ≤ a.toInt then 0x00000000 else 0xFFFFFFFF)
      else a.sshiftRight b.toNat := by
  have hs : (if a.msb then (0xFFFFFFFF : Word) else 0) = if 0 ≤ a.toInt then 0x00000000 else 0xFFFFFFFF := by
    rw [BitVec.msb_eq_toInt, ← ite_not]
    simp only [decide_eq_true_eq, Int.not_lt]
  rw [shiftSign, hs]

/-- A rotation to the right takes a window of the word written twice (R423). -/
theorem rotateRight_eq_window (a : Word) {n : Nat} (hn : n < 32) :
    a.rotateRight n = (a ++ a).extractLsb' n 32 := by
  refine BitVec.eq_of_getLsbD_eq fun i hi => ?_
  rw [BitVec.getLsbD_rotateRight_of_lt hn, BitVec.getLsbD_extractLsb', BitVec.getLsbD_append]
  by_cases h : i < 32 - n
  · rw [if_pos (by omega)]; simp only [h, hi, decide_true, Bool.true_and, cond_true]
  · have hw : i - (32 - n) = n + i - 32 := by omega
    rw [if_neg (by omega), hw]; simp only [h, hi, decide_true, decide_false, Bool.true_and, cond_false]

/-- ROT (R423). -/
theorem rotate_eq (a b : Word) : rotate a b = (a ++ a).extractLsb' (b.toNat % 32) 32 :=
  rotateRight_eq_window a (Nat.mod_lt _ (by decide))

/-- An amount of an immediate shift, as the word that the shift takes. -/
theorem amount_toNat (amt : BitVec 5) : (amt.setWidth 32 : Word).toNat = amt.toNat :=
  BitVec.toNat_setWidth_of_le (by decide)

/-- An amount of an immediate shift is below the width. -/
theorem amount_lt (amt : BitVec 5) : ¬ 32 ≤ amt.toNat := by omega

/-- SHLI (R423). -/
theorem shiftLeft_amount (a : Word) (amt : BitVec 5) : shiftLeft a (amt.setWidth 32) = a <<< amt.toNat := by
  rw [shiftLeft, amount_toNat, if_neg (amount_lt amt)]

/-- SHRI (R423). -/
theorem shiftRight_amount (a : Word) (amt : BitVec 5) : shiftRight a (amt.setWidth 32) = a >>> amt.toNat := by
  rw [shiftRight, amount_toNat, if_neg (amount_lt amt)]

/-- SARI (R423). -/
theorem shiftSign_amount (a : Word) (amt : BitVec 5) : shiftSign a (amt.setWidth 32) = a.sshiftRight amt.toNat := by
  rw [shiftSign, amount_toNat, if_neg (amount_lt amt)]

/-- ROTI (R423). -/
theorem rotate_amount (a : Word) (amt : BitVec 5) :
    rotate a (amt.setWidth 32) = (a ++ a).extractLsb' amt.toNat 32 := by
  rw [rotate_eq, amount_toNat, Nat.mod_eq_of_lt (by omega)]

/-- LUI puts its immediate in the upper half (R419). -/
theorem append_zero_eq_shiftLeft (imm : BitVec 16) :
    (imm ++ (0 : BitVec 16) : Word) = imm.setWidth 32 <<< 16 := by
  rw [BitVec.append_def, BitVec.shiftLeftZeroExtend_eq]
  exact BitVec.or_zero

/-! ### What an instruction does that is issued -/

/-- An instruction that is issued does what its body does. -/
theorem exec_atInstr {e : Fin 18} {i : Instr} {s : State} {body : Word → State → State} (hat : atInstr e i s = true)
    (hx : exec i s = .next (issue e i body s)) : exec i s = .next (body ((encodeBurjo i).getD 0) s) := by
  rw [hx, issue_atInstr hat]

/-- An instruction whose body writes a result to rd, whatever its word. -/
theorem exec_alu {e : Fin 18} {i : Instr} {s : State} {rd : Fin 32} {v r : Word} {body : Word → State → State}
    (hat : atInstr e i s = true) (hx : exec i s = .next (issue e i body s)) (hb : ∀ w, body w s = alu e rd v s)
    (hv : v = r) : ∃ t, exec i s = .next t ∧ wroteReg e rd r s t := by
  refine ⟨alu e rd v s, ?_, hv ▸ alu_wroteReg e rd v s⟩
  rw [exec_atInstr hat hx, hb]

/-- An instruction that computes a result of the state and writes it to rd. -/
theorem exec_result {e : Fin 18} {i : Instr} {s : State} {rd : Fin 32} {v : State → Word} {r : Word}
    (hat : atInstr e i s = true) (hx : exec i s = .next (issue e i (fun _ s => alu e rd (v s) s) s))
    (hv : v s = r) : ∃ t, exec i s = .next t ∧ wroteReg e rd r s t :=
  exec_alu hat hx (fun _ => rfl) hv

/-- A division that does not trap writes its result (R422). -/
theorem divide_alu {e : Fin 18} {rb : Fin 32} {s : State} (h : regOf e rb s ≠ 0 ∨ s.engines[e].flag 1 0 = false)
    (rd ra : Fin 32) (f : Word → Word → Word) (w : Word) :
    divide e rd ra rb f w s = alu e rd (f (regOf e ra s) (regOf e rb s)) s := by
  unfold divide
  rw [if_neg]
  rintro ⟨hz, ht⟩
  exact h.elim (· hz) fun hf => Bool.false_ne_true (hf.symm.trans ht)

/-! ### The data stack (R433, R436, R439) -/

/-- The state once the source of the stacks' traps has latched (R439). -/
def stackLatched (e : Fin 18) (s : State) : State :=
  { s with hub := s.hub.latch 26 ⟨masterId (engineMaster e), 7, s.engines[e].pc⟩ }

/-- An instruction whose body is a DSTACK trap latches source 26 and traps (R436, R439). -/
theorem exec_stackTrap {e : Fin 18} {i : Instr} {s : State} {new : Word} {ovf : Bool} {body : Word → State → State}
    (hat : atInstr e i s = true) (hx : exec i s = .next (issue e i body s))
    (hb : ∀ w, body w s = trap e (stackTrap w new ovf) s) (hs : (stackLatched e s).hub.settled = true)
    (hc : canTrap e (stackLatched e s) = true) :
    ∃ t, exec i s = .next t ∧ ranOn e (stackLatched e s) t ∧
      tookTrap e 6 (if ovf then 0x200 else 0) ((encodeBurjo i).getD 0) new (stackLatched e s) t := by
  refine ⟨_, exec_atInstr hat hx, ?_⟩
  rw [hb]
  cases ovf with
  | true => exact trap_stack (.inl rfl) hs hc _ new false true false
  | false => exact trap_stack (.inl rfl) hs hc _ new false false false

/-- A push past the lower bound traps before any access (R436). -/
theorem push_below {e : Fin 18} {regs : List (Fin 32)} {s : State}
    (h : (s.engines[e].ctl[ctlDsp].toNat : Int) - 4 * regs.length < s.engines[e].ctl[ctlDsLo].toNat) (w : Word) :
    push e regs w s =
      trap e (stackTrap w (BitVec.ofInt 32 (s.engines[e].ctl[ctlDsp].toNat - 4 * regs.length)) true) s := by
  have hnew : BitVec.ofInt 32 (s.engines[e].ctl[ctlDsp].toNat - 4 * regs.length) =
      s.engines[e].ctl[ctlDsp] - BitVec.ofNat 32 (4 * regs.length) := by
    rw [Int.sub_eq_add_neg, BitVec.ofInt_add, BitVec.ofInt_neg, ← BitVec.sub_eq_add_neg, BitVec.ofInt_natCast,
      BitVec.ofNat_toNat, BitVec.setWidth_eq]
    rfl
  unfold push
  rw [hnew]
  exact if_pos (by omega)

/-- A pop past the upper bound traps before any access (R436). -/
theorem pop_above {e : Fin 18} {regs : List (Fin 32)} {s : State}
    (h : (s.engines[e].ctl[ctlDsHi].toNat : Int) < s.engines[e].ctl[ctlDsp].toNat + 4 * regs.length) (w : Word) :
    pop e regs w s =
      trap e (stackTrap w (BitVec.ofInt 32 (s.engines[e].ctl[ctlDsp].toNat + 4 * regs.length)) false) s := by
  have hnew : BitVec.ofInt 32 (s.engines[e].ctl[ctlDsp].toNat + 4 * regs.length) =
      s.engines[e].ctl[ctlDsp] + BitVec.ofNat 32 (4 * regs.length) := by
    rw [BitVec.ofInt_add, BitVec.ofInt_natCast, BitVec.ofNat_toNat, BitVec.setWidth_eq]
    rfl
  unfold pop
  rw [hnew]
  exact if_pos (by omega)

/-- ADDSP's new DSP, as a word, is the exact sum's. -/
theorem ofInt_dspSum (dsp : Word) (operand : BitVec 16) :
    BitVec.ofInt 32 (dsp.toNat + operand.toInt) = dsp + sext operand := by
  rw [BitVec.ofInt_add, BitVec.ofInt_natCast, BitVec.ofNat_toNat, BitVec.setWidth_eq, ← sext_toInt,
    BitVec.ofInt_toInt]

/-- ADDSP past a bound traps, with overflow set below the lower one (R436). -/
theorem addDsp_outside {e : Fin 18} {operand : BitVec 16} {s : State} {sum : Int}
    (hsum : sum = s.engines[e].ctl[ctlDsp].toNat + operand.toInt)
    (h : if decide (sum < s.engines[e].ctl[ctlDsLo].toNat) then sum < s.engines[e].ctl[ctlDsLo].toNat
      else (s.engines[e].ctl[ctlDsHi].toNat : Int) < sum) (w : Word) :
    addDsp e operand w s =
      trap e (stackTrap w (BitVec.ofInt 32 sum) (decide (sum < s.engines[e].ctl[ctlDsLo].toNat))) s := by
  subst hsum
  rw [ofInt_dspSum]
  unfold addDsp
  by_cases hlo : (s.engines[e].ctl[ctlDsp].toNat : Int) + operand.toInt < s.engines[e].ctl[ctlDsLo].toNat
  · rw [decide_eq_true hlo]
    exact if_pos hlo
  · rw [decide_eq_false hlo] at h ⊢
    exact (if_neg hlo).trans (if_pos h)

/-- ADDSP within the bounds, both of which DSP may equal, moves DSP (R436). -/
theorem addDsp_within {e : Fin 18} {operand : BitVec 16} {s : State}
    (hlo : (s.engines[e].ctl[ctlDsLo].toNat : Int) ≤ s.engines[e].ctl[ctlDsp].toNat + operand.toInt)
    (hhi : (s.engines[e].ctl[ctlDsp].toNat : Int) + operand.toInt ≤ s.engines[e].ctl[ctlDsHi].toNat) (w : Word) :
    addDsp e operand w s = retire e (Engine.setDsp (s.engines[e].ctl[ctlDsp] + sext operand)) s := by
  unfold addDsp
  exact (if_neg (Int.not_lt.mpr hlo)).trans (if_neg (Int.not_lt.mpr hhi))

/-- The fields of a word of format S. -/
theorem fmtS_fields (op : BitVec 6) (reg : Fin 32) (sub : BitVec 5) (operand : BitVec 16) :
    (fmtS op reg sub operand).extractLsb' 26 6 = op ∧ (fmtS op reg sub operand).extractLsb' 21 5 = reg5 reg ∧
      (fmtS op reg sub operand).extractLsb' 16 5 = sub ∧ (fmtS op reg sub operand).extractLsb' 0 16 = operand := by
  have hop : (op ++ reg5 reg ++ sub ++ operand).extractLsb' 26 6 = op := by
    rw [BitVec.extractLsb'_append_eq_of_le (by decide), BitVec.extractLsb'_append_eq_of_le (by decide)]
    exact BitVec.extractLsb'_append_eq_left
  have hreg : (op ++ reg5 reg ++ sub ++ operand).extractLsb' 21 5 = reg5 reg := by
    rw [BitVec.extractLsb'_append_eq_of_le (by decide), BitVec.extractLsb'_append_eq_of_le (by decide)]
    exact BitVec.extractLsb'_append_eq_right
  have hsub : (op ++ reg5 reg ++ sub ++ operand).extractLsb' 16 5 = sub := by
    rw [BitVec.extractLsb'_append_eq_of_le (by decide)]
    exact BitVec.extractLsb'_append_eq_right
  exact ⟨hop, hreg, hsub, BitVec.extractLsb'_append_eq_right⟩

/-- A word of the stack group is read by that group's decoder (R433). -/
theorem decodeBurjo_stack (e : Fin 18) (sub : BitVec 5) (operand : BitVec 16) :
    decodeBurjo e (fmtS 0x3E 0 sub operand) = decodeStack e sub 0 operand := by
  obtain ⟨hop, hreg, hsub, hx⟩ := fmtS_fields 0x3E 0 sub operand
  have hne : fmtS 0x3E 0 sub operand ≠ 0 := fun h0 => absurd (h0 ▸ hop) (by decide)
  unfold decodeBurjo regField
  rw [if_neg hne, hop, hreg, hsub, hx]
  rfl

/-- An ADDSP that has an encoding has an operand that is a multiple of 4 (R414, R433). -/
theorem addsp_operand_aligned {e : Fin 18} {operand : BitVec 16} {s : State}
    (h : atInstr e (.addsp e operand) s = true) : operand.toNat % 4 = 0 := by
  simp only [atInstr, Bool.and_eq_true] at h
  have hd : (decodeBurjo e (fmtS 0x3E 0 0x07 operand)).isSome = true := h.2
  rw [decodeBurjo_stack] at hd
  change (if (0 : Fin 32) = 0 ∧ operand.extractLsb' 0 2 = 0 then some (Instr.addsp e operand) else none).isSome = true
    at hd
  split at hd
  · rename_i hz
    have hlow := congrArg BitVec.toNat hz.2
    rw [BitVec.extractLsb'_toNat] at hlow
    exact hlow
  · cases hd

/-- DSP holds a word exactly if it is a multiple of 4 (R441). -/
theorem dsp_bits_iff (v : Word) : v &&& ~~~ctlBits 8 = 0 ↔ v.toNat % 4 = 0 := by
  rw [show ~~~ctlBits 8 = (3 : Word) by decide, ← BitVec.toNat_inj, BitVec.toNat_and]
  have hmod : v.toNat &&& (3 : Word).toNat = v.toNat % 4 := Nat.and_two_pow_sub_one_eq_mod v.toNat 2
  exact iff_of_eq (congrArg (· = 0) hmod)

/-- A mask outside which a word has no bit leaves it whole. -/
theorem and_eq_of_and_not {v b : Word} (h : v &&& ~~~b = 0) : v &&& b = v := by
  calc v &&& b = v &&& b ||| v &&& ~~~b := by rw [h]; exact BitVec.or_zero.symm
    _ = v &&& (b ||| ~~~b) := (BitVec.and_or_distrib_left ..).symm
    _ = v := by rw [BitVec.or_not_self, BitVec.and_allOnes]

/-- A write of a control register that holds every bit of the value stores it whole (R441). -/
theorem Engine.writeCtl_whole {x : Engine} {n : Fin 16} {v : Word} (hn : n.val ≠ ctlRsDepth)
    (hx : x.ctl[n] &&& ~~~ctlBits n.val = 0) (hv : v &&& ~~~ctlBits n.val = 0) :
    x.writeCtl n v = { x with ctl := x.ctl.set n v } := by
  unfold Engine.writeCtl
  rw [if_neg hn, hx, and_eq_of_and_not hv, show (0 : Word) ||| v = v from BitVec.zero_or]

/-- ADDSP within the bounds stores the sum, which is a multiple of 4 as its terms are (R436). -/
theorem setDsp_dspSum {e : Fin 18} {x : Engine} {operand : BitVec 16} (hx : engineOk e x = true)
    (ho : operand.toNat % 4 = 0) :
    x.setDsp (x.ctl[ctlDsp] + sext operand) =
      { x with ctl := x.ctl.set ctlDsp (BitVec.ofInt 32 (x.ctl[ctlDsp].toNat + operand.toInt)) } := by
  obtain ⟨-, -, hctl⟩ := (engineOk_iff e x).mp hx
  have hdsp : x.ctl[(8 : Fin 16)] &&& ~~~ctlBits 8 = 0 := hctl 8
  have hsum : (x.ctl[ctlDsp] + sext operand) &&& ~~~ctlBits 8 = 0 := by
    have hd := (dsp_bits_iff _).mp hdsp
    rw [dsp_bits_iff, ← ofInt_dspSum, BitVec.toNat_ofInt, BitVec.toInt_eq_toNat_cond]
    change x.ctl[ctlDsp].toNat % 4 = 0 at hd
    split <;> omega
  rw [ofInt_dspSum]
  exact Engine.writeCtl_whole (by decide) hdsp hsum

/-! ### The system group (R440, R450–R452) -/

/-- The flags of STATUS after ERET (R450). -/
theorem Engine.leave_flags (x : Engine) :
    x.leave.flag 2 0 = x.flag 2 1 ∧ x.leave.flag 2 1 = x.flag 2 1 ∧ x.leave.flag 2 2 = false := by
  have hst : x.leave.ctl[(2 : Fin 16)] = (x.ctl[ctlStatus] &&& 2) ||| (if x.flag 2 1 then (1 : Word) else 0) :=
    Vector.getElem_set_self _
  have hbits : ∀ (w : Word) (b : Bool), ((w &&& 2) ||| (if b then (1 : Word) else 0)).getLsbD 0 = b ∧
      ((w &&& 2) ||| (if b then (1 : Word) else 0)).getLsbD 1 = w.getLsbD 1 ∧
      ((w &&& 2) ||| (if b then (1 : Word) else 0)).getLsbD 2 = false := by
    intro w b
    simp only [BitVec.getLsbD_or, BitVec.getLsbD_and]
    generalize w.getLsbD 0 = b0
    generalize w.getLsbD 1 = b1
    generalize w.getLsbD 2 = b2
    revert b b0 b1 b2
    decide
  have hflag : ∀ n, x.leave.flag 2 n =
      ((x.ctl[ctlStatus] &&& 2) ||| (if x.flag 2 1 then (1 : Word) else 0)).getLsbD n :=
    fun n => congrArg (BitVec.getLsbD · n) hst
  rw [hflag, hflag, hflag]
  exact hbits x.ctl[ctlStatus] (x.flag 2 1)

/-- ERET changes no control register but STATUS (R450). -/
theorem Engine.leave_ctl (x : Engine) {n : Fin 16} (hn : n ≠ 2) : x.leave.ctl[n] = x.ctl[n] :=
  Vector.getElem_set_ne (by decide) n.isLt fun h => hn (Fin.ext h.symm)

/-- The master that a port engine is (R27). -/
theorem engineMaster_pe {e : Fin 18} {p : Fin 16} (h : e.val = p.val) : engineMaster e = .pe p := by
  unfold engineMaster
  rw [dif_pos (h ▸ p.isLt)]
  exact congrArg Master.pe (Fin.ext h)

/-- BREAK with brk_halt at 1 ends at the hub that it halts the engine on (R452). -/
theorem exec_brk_halt {e : Fin 18} {s : State} {h : Hub} (hat : atInstr e (.brk e) s = true)
    (hf : s.engines[e].flag 1 1 = true) (hh : s.hub.breakHalt e = h) : exec (.brk e) s = .next (ends h s) := by
  rw [exec_atInstr hat rfl, if_pos hf, applyHub_ends hh]

/-! ### The obligations -/

/-- Settles O9, one term for each instruction: its body is `alu` of an operation that a lemma above evaluates; a division
that does not trap is one too. -/
theorem arithmeticResults : Obligations.ArithmeticResults := by
  unfold Obligations.ArithmeticResults
  refine ⟨fun e rd ra rb s i f hmem hat => ?_, fun e rd ra rb s i f hmem hat => ?_⟩
  · simp only [List.mem_cons, List.not_mem_nil, or_false, Prod.mk.injEq] at hmem
    rcases hmem with ⟨rfl, rfl⟩ | ⟨rfl, rfl⟩ | ⟨rfl, rfl⟩ | ⟨rfl, rfl⟩ | ⟨rfl, rfl⟩ | ⟨rfl, rfl⟩ | ⟨rfl, rfl⟩ |
      ⟨rfl, rfl⟩ | ⟨rfl, rfl⟩ | ⟨rfl, rfl⟩
    · exact exec_result hat rfl rfl  -- ADD
    · exact exec_result hat rfl rfl  -- SUB
    · exact exec_result hat rfl rfl  -- AND
    · exact exec_result hat rfl rfl  -- OR
    · exact exec_result hat rfl rfl  -- XOR
    · exact exec_result hat rfl (ofBool_slt ..)  -- SLT
    · exact exec_result hat rfl (ofBool_ult ..)  -- SLTU
    · exact exec_result hat rfl (BitVec.zero_sub _)  -- NEG
    · exact exec_result hat rfl (saturate_eq _)  -- SADD
    · exact exec_result hat rfl (saturate_eq _)  -- SSUB
  · simp only [List.mem_cons, List.not_mem_nil, or_false, Prod.mk.injEq] at hmem
    rcases hmem with (⟨rfl, rfl⟩ | ⟨rfl, rfl⟩ | ⟨rfl, rfl⟩) |
      ⟨hz, ⟨rfl, rfl⟩ | ⟨rfl, rfl⟩ | ⟨rfl, rfl⟩ | ⟨rfl, rfl⟩⟩
    · exact exec_result hat rfl (mul_eq_low ..)  -- MUL
    · exact exec_result hat rfl (mulHigh_eq ..)  -- MULH
    · exact exec_result hat rfl (mulHighU_eq ..)  -- MULHU
    · exact exec_alu hat rfl (divide_alu hz rd ra quot) (quot_eq ..)  -- DIV
    · exact exec_alu hat rfl (divide_alu hz rd ra quotU) (quotU_eq ..)  -- DIVU
    · exact exec_alu hat rfl (divide_alu hz rd ra remS) (remS_eq ..)  -- REM
    · exact exec_alu hat rfl (divide_alu hz rd ra remU) (remU_eq ..)  -- REMU

/-- Settles O10, one term for each shift. -/
theorem shiftResults : Obligations.ShiftResults := by
  unfold Obligations.ShiftResults
  intro e rd ra rb amt s i f hmem hat
  simp only [List.mem_cons, List.not_mem_nil, or_false, Prod.mk.injEq] at hmem
  rcases hmem with ⟨rfl, rfl⟩ | ⟨rfl, rfl⟩ | ⟨rfl, rfl⟩ | ⟨rfl, rfl⟩ | ⟨rfl, rfl⟩ | ⟨rfl, rfl⟩ | ⟨rfl, rfl⟩ |
    ⟨rfl, rfl⟩
  · exact exec_result hat rfl rfl  -- SHL
  · exact exec_result hat rfl rfl  -- SHR
  · exact exec_result hat rfl (shiftSign_eq ..)  -- SAR
  · exact exec_result hat rfl (rotate_eq ..)  -- ROT
  · exact exec_result hat rfl (shiftLeft_amount ..)  -- SHLI
  · exact exec_result hat rfl (shiftRight_amount ..)  -- SHRI
  · exact exec_result hat rfl (shiftSign_amount ..)  -- SARI
  · exact exec_result hat rfl (rotate_amount ..)  -- ROTI

/-- Settles O11, one term for each instruction. -/
theorem immediateResults : Obligations.ImmediateResults := by
  unfold Obligations.ImmediateResults
  intro e rd ra imm s i f hmem hat
  simp only [List.mem_cons, List.not_mem_nil, or_false, Prod.mk.injEq] at hmem
  rcases hmem with ⟨rfl, rfl⟩ | ⟨rfl, rfl⟩ | ⟨rfl, rfl⟩ | ⟨rfl, rfl⟩ | ⟨rfl, rfl⟩ | ⟨rfl, rfl⟩ | ⟨rfl, rfl⟩
  · exact exec_result hat rfl rfl  -- ADDI
  · exact exec_result hat rfl rfl  -- ANDI
  · exact exec_result hat rfl rfl  -- ORI
  · exact exec_result hat rfl rfl  -- XORI
  · exact exec_result hat rfl ((ofBool_slt ..).trans (by rw [sext_toInt]))  -- SLTI
  · exact exec_result hat rfl (ofBool_ult ..)  -- SLTIU
  · exact exec_result hat rfl (append_zero_eq_shiftLeft imm)  -- LUI

/-- Settles O18: ADDSP by its three branches, a push and a pop by the one past its bound. -/
theorem stackBounds : Obligations.StackBounds := by
  unfold Obligations.StackBounds
  intro e operand mask s x lo hi sum s26
  refine ⟨fun hat hok hlo hhi => ?_, fun i new ovf hmem hout hat hs hc => ?_⟩
  · refine ⟨_, exec_atInstr hat rfl, ?_⟩
    rw [addDsp_within hlo hhi]
    refine ⟨setEngine_ranOn .., (setEngine_self ..).trans ?_⟩
    rw [setDsp_dspSum hok (addsp_operand_aligned hat)]
    rfl
  · simp only [List.mem_cons, List.not_mem_nil, or_false, Prod.mk.injEq] at hmem
    rcases hmem with ⟨rfl, rfl, rfl⟩ | ⟨rfl, rfl, rfl⟩ | ⟨rfl, rfl, rfl⟩ | ⟨rfl, rfl, rfl⟩ | ⟨rfl, rfl, rfl⟩
    · exact exec_stackTrap hat rfl (addDsp_outside rfl hout) hs hc  -- ADDSP
    · exact exec_stackTrap hat rfl (push_below hout) hs hc  -- PUSHL
    · exact exec_stackTrap hat rfl (push_below hout) hs hc  -- PUSHH
    · exact exec_stackTrap hat rfl (pop_above hout) hs hc  -- POPL
    · exact exec_stackTrap hat rfl (pop_above hout) hs hc  -- POPH

/-- Settles O22, instruction by instruction. -/
theorem systemInstructions : Obligations.SystemInstructions := by
  unfold Obligations.SystemInstructions
  intro e s x
  refine ⟨fun i hmem hat => ?_, fun hat => ?_, fun hat => ?_, fun hat hf => ⟨fun p hp => ?_, ?_, ?_⟩⟩
  · simp only [List.mem_cons, List.not_mem_nil, or_false] at hmem
    rcases hmem with rfl | rfl
    · exact ⟨_, exec_atInstr hat rfl, retire_wentTo e s⟩
    · exact ⟨_, exec_atInstr hat rfl, retire_wentTo e s⟩
  · exact ⟨_, exec_atInstr hat rfl, setEngine_ranOn .., setEngine_self ..⟩
  · obtain ⟨hie, hpie, htrap⟩ := x.leave_flags
    refine ⟨_, exec_atInstr hat rfl, setEngine_ranOn .., ?_⟩
    rw [setEngine_self]
    exact ⟨rfl, hie, hpie, htrap, fun n hn => x.leave_ctl hn, rfl, rfl⟩
  · exact exec_brk_halt hat hf (by unfold Hub.breakHalt; rw [engineMaster_pe hp])
  · rintro rfl
    exact exec_brk_halt hat hf rfl
  · rintro rfl
    exact exec_brk_halt hat hf rfl

end Sys2Proof.Machine
